-- ==== Sys2Proof/Word.lean ====
section
/-!
DEFINITION. The plainest vocabulary: the byte, the two cells and the two levels.
-/
namespace Sys2Proof

/-- One byte, as the serial port moves it and the register window shows it. -/
abbrev Byte := BitVec 8

/-- The two conversion cells (R3). -/
inductive CellId where
  | a
  | b
  deriving DecidableEq, Repr, Inhabited

/-- The other cell. -/
def CellId.other : CellId → CellId
  | .a => .b
  | .b => .a

/-- A level: of a Schmitt input (R1) or of the TRIG pin (R176). -/
inductive Level where
  | low
  | high
  deriving DecidableEq, Repr, Inhabited

/-- The opposite level. -/
def Level.flip : Level → Level
  | .low => .high
  | .high => .low

end Sys2Proof
end

