-- ==== Sys2Proof/Config.lean ====
section
/-!
DEFINITION. What the part fixes once (00_scope.md, 0.4), and the values the spec leaves free.
A free value is an opaque constant without a body: nothing can be proved of it.
-/
namespace Sys2Proof

/-- The rest time in timebase ticks (R5). -/
abbrev Config.restTime : Nat := 32

/-- The largest tick count of a sample (R14). -/
abbrev Config.maxTicks : Nat := 16777215

/-- The largest count of a COUNT sample (R12). -/
abbrev Config.maxCrossings : Nat := 65535

/-- The largest ratio and the clamp of the window bounds (R134, R159). -/
abbrev Config.maxValue : Nat := 16777215

/-- The places of the result queue (R140). -/
abbrev Config.resultPlaces : Nat := 32

/-- The places of the request queue (R80). -/
abbrev Config.requestPlaces : Nat := 8

/-- The offset of the command location (R191). -/
abbrev Config.commandOffset : Nat := 25

/-- The offset of the event enable location (R191). -/
abbrev Config.enableOffset : Nat := 16

/-- The offset whose read latches the interval counter (R171, R191). -/
abbrev Config.latchOffset : Nat := 11

/-- The offset whose read copies the snapshot (R145, R191). -/
abbrev Config.snapshotOffset : Nat := 80

/-- The codes of the command summary (R200). -/
def Config.commandCodes : List Byte :=
  [0x10, 0x11, 0x18, 0x19, 0x1A, 0x20, 0x28, 0x29, 0x2A, 0x2B, 0x30, 0x31, 0x32, 0x33, 0x34,
   0x38, 0x39, 0x3A, 0x40, 0x41, 0x42, 0x48, 0x49, 0x4A, 0x50, 0x51, 0x5A]

/-- The arrivals the part produces by itself at a timebase tick, or in the act of another
arrival: they may meet one another and the host's commands, and "the result follows the one
taken first" (R22, R103, R170). -/
inductive Arrival where
  | intervalTick
  | scanTimerExpiry
  | trigEdge
  | gateExpiry (c : CellId)
  | prechargeExpiry (c : CellId)
  | periodOverflow (c : CellId)
  | stallExpiry (c : CellId)
  | restExpiry (c : CellId)
  | dispatchAttempt (c : CellId)
  deriving DecidableEq, Repr

/-- DESIGN CHOICE (log 3), a free value: the order in which arrivals that are due together, and
that the queue does not name, are taken before the next CLKIN period or tick. The argument numbers the
occasion. The list may name any arrivals any number of times: one that is not due is not taken. -/
opaque Config.arrivalOrder : Nat → List Arrival

/-- DESIGN CHOICE (log 17), a free value: the cell whose CANCELLED record is appended first when
one REQUEST_CANCEL aborts the jobs of both cells ("either may be taken first", R142). The
argument numbers the occasion. -/
opaque Config.cancelFirst : Nat → CellId

end Sys2Proof
end

