-- ==== Sys2Proof/Syntax.lean ====
section
/-!
DEFINITION. The commands the block takes: one constructor per row of spec/opcode_table.json, in
the table's order. A command by code has no operand: it reads the argument bytes as they stand
when it is taken (R194).
-/
namespace Sys2Proof

/-- The rows of the opcode table. -/
inductive Instr where
  /-- Command 0x10 (R4). -/
  | cellEnable
  /-- Command 0x11 (R6). -/
  | cellDisable
  /-- Command 0x18 (R45). -/
  | channelSet
  /-- Command 0x19 (R46). -/
  | channelClearFault
  /-- Command 0x1A (R47). -/
  | faultThreshold
  /-- Command 0x20 (R172). -/
  | timebaseSet
  /-- Command 0x28 (R67). -/
  | scanConfig
  /-- Command 0x29 (R64). -/
  | scanStart
  /-- Command 0x2A (R65). -/
  | scanOnce
  /-- Command 0x2B (R66). -/
  | scanStop
  /-- Command 0x30 (R54). -/
  | entryWrite
  /-- Command 0x31 (R55). -/
  | entryRead
  /-- Command 0x32 (R56). -/
  | tableRevert
  /-- Command 0x33 (R57). -/
  | tableCommit
  /-- Command 0x34 (R61). -/
  | tableAbandon
  /-- Command 0x38 (R33). -/
  | profileWrite
  /-- Command 0x39 (R34). -/
  | profileRead
  /-- Command 0x3A (R130). -/
  | referenceInvalidate
  /-- Command 0x40 (R84). -/
  | requestSubmit
  /-- Command 0x41 (R89). -/
  | requestCancel
  /-- Command 0x42 (R93). -/
  | requestFlush
  /-- Command 0x48 (R148). -/
  | resultPop
  /-- Command 0x49 (R149). -/
  | resultFlush
  /-- Command 0x4A (R150). -/
  | resultWatermark
  /-- Command 0x50 (R164). -/
  | windowAck
  /-- Command 0x51 (R184). -/
  | eventAck
  /-- Command 0x5A (R198). -/
  | softReset
  /-- A code that is not in the command summary (R195). -/
  | badCommand (code : Byte)
  /-- A byte completed at the event enable location (R181). -/
  | eventEnableWrite (value : Byte)
  /-- A complete data byte of a WRITE frame (R188). -/
  | registerWrite (value : Byte)
  /-- A read of offset 11 (R171). -/
  | intervalCounterLatch
  /-- A read of offset 80 (R145). -/
  | resultSnapshotCopy
  /-- A falling edge of CS# (R187). -/
  | frameBegin
  /-- A completed header byte (R187). -/
  | header (value : Byte)
  /-- A rising edge of CS# (R190). -/
  | frameEnd
  /-- RESET# goes low, or power-up (R199). -/
  | deviceReset
  /-- A confirmed change of the TRIG filtered level (R176). -/
  | trigEdge
  /-- The interval phase reaches the divider (R169). -/
  | intervalTick
  /-- The scan timer's remaining count runs out (R174). -/
  | scanTimerExpiry
  /-- The capacitor voltage of a cell rises past the upper threshold (R1). -/
  | upperCrossing (cell : CellId)
  /-- The capacitor voltage of a cell falls past the lower threshold (R1, R9). -/
  | lowerCrossing (cell : CellId)
  /-- A cell's rest ends (R5). -/
  | restExpiry (cell : CellId)
  /-- A COUNT gate expires (R11). -/
  | gateExpiry (cell : CellId)
  /-- A SLOPE precharge ends (R15). -/
  | prechargeExpiry (cell : CellId)
  /-- The stall timer reaches the stall limit (R21). -/
  | stallExpiry (cell : CellId)
  /-- A PERIOD sample's tick count would pass its limit (R14). -/
  | periodOverflow (cell : CellId)
  /-- The attempt that answers a dispatch opportunity of a cell (R99, R101). -/
  | dispatchAttempt (cell : CellId)
  /-- A commit that stands to be applied is applied (R60). -/
  | commitApply
  /-- A timebase tick; the operand is the level the TRIG pin shows at it (R169, R176). -/
  | timebaseTick (trig : Level)
  /-- RESET# goes high (R199). -/
  | resetRelease
  deriving DecidableEq, Repr

end Sys2Proof
end

