-- ==== Sys2Proof/Decode.lean ====
section
/-!
DEFINITION. The block has no instruction words: no row of spec/opcode_table.json gives bits
(every row's "fields" is empty and none has "fixed"), so no word spells a command (log 21). The
codes of the serial commands are read by the command decoder, Machine/Decoder.lean (R200).
-/
namespace Sys2Proof

/-- The command that a word of the table's bits spells: none, since no row gives bits. -/
def decodeTableWord (_nbits _w : Nat) : Option Instr := none

end Sys2Proof
end

