-- ==== Sys2Proof/Machine/State.lean ====
section
/-!
DEFINITION. The state of the part as plain data, block by block, and its values at reset. Each
field cites the rule that gives it. Ranges that the types do not carry are the predicates of
Safety.lean.
-/
namespace Sys2Proof.Machine

/-- One value for each cell. -/
structure PerCell (α : Type) where
  a : α
  b : α
  deriving DecidableEq, Repr

/-- The value of a cell. -/
def PerCell.get {α : Type} (p : PerCell α) : CellId → α
  | .a => p.a
  | .b => p.b

/-- The pair with the value of one cell replaced. -/
def PerCell.set {α : Type} (p : PerCell α) (c : CellId) (x : α) : PerCell α :=
  match c with
  | .a => { p with a := x }
  | .b => { p with b := x }

/-! ### Measurement -/

/-- The method of a conversion (R26). -/
inductive Method where
  | count
  | period
  | slope
  deriving DecidableEq, Repr

/-- The averaging count M: 1, 2, 4, 8 or 16 samples (R17). -/
inductive Averaging where
  | m1
  | m2
  | m4
  | m8
  | m16
  deriving DecidableEq, Repr

/-- The number of samples. -/
def Averaging.toNat : Averaging → Nat
  | .m1 => 1
  | .m2 => 2
  | .m4 => 4
  | .m8 => 8
  | .m16 => 16

/-- A profile record, and the copy of one that a job holds (R26, R35). -/
structure Profile where
  method : Method
  settle : Nat
  cycles : Nat
  gate : Nat
  precharge : Nat
  stallLimit : Nat
  lifetime : Nat
  useLimit : Nat
  reportReferences : Bool
  generation : BitVec 8
  deriving DecidableEq, Repr

/-- The profile table with its image (R26, R30). -/
structure ProfileTable where
  records : Vector Profile 4
  image : Vector Byte 15
  deriving DecidableEq, Repr

/-! ### Cells -/

/-- The seven states of a cell (01, 1.2). -/
inductive CellState where
  | down
  | resting
  | idle
  | starting
  | measuring
  | precharging
  | discharging
  deriving DecidableEq, Repr

/-- The order a cell runs (R3, R7). -/
structure Order where
  channel : Fin 10
  method : Method
  settle : Nat
  cycles : Nat
  gate : Nat
  precharge : Nat
  stallLimit : Nat
  m : Averaging
  deriving DecidableEq, Repr

/-- The phase timer: stopped, counting down to an expiry, or counting up (R3). -/
inductive PhaseTimer where
  | stopped
  | down (left : Nat)
  | up (count : Nat)
  deriving DecidableEq, Repr

/-- A conversion cell (R3). -/
structure Cell where
  state : CellState
  order : Option Order
  phaseTimer : PhaseTimer
  /-- `none` is stopped. -/
  stallTimer : Option Nat
  crossings : Nat
  settleLeft : Nat
  accumulator : Nat
  samplesDone : Nat
  /-- The level of the Schmitt input (R1). -/
  level : Level
  /-- The reference point of the order has been taken (R8, R9). -/
  referenceTaken : Bool
  deriving DecidableEq, Repr

/-- What a cell delivers when an order ends (R23). -/
inductive Outcome where
  | ok (samples raw : Nat)
  | overrange (samples : Nat)
  | underrange (samples : Nat)
  | stall (samples : Nat) (level : Level)
  deriving DecidableEq, Repr

/-! ### Channels -/

/-- The health of a channel (R38). -/
inductive Health where
  | good
  | suspect
  | faulted
  deriving DecidableEq, Repr

/-- A channel record (R38). -/
structure ChannelRecord where
  enabled : Bool
  health : Health
  stalls : Nat
  lastLevel : Option Level
  deriving DecidableEq, Repr

/-- The channel table and the fault threshold (R38). -/
structure ChannelTable where
  records : Vector ChannelRecord 10
  threshold : Nat
  deriving DecidableEq, Repr

/-! ### Scan -/

/-- The window of a scan entry (R51). -/
structure Window where
  low : BitVec 24
  high : BitVec 24
  hysteresis : BitVec 16
  qualify : Byte
  deriving DecidableEq, Repr

/-- A scan entry: the bytes as the host wrote them; an absent window keeps none of its four
values (R51, R53, R54). -/
structure ScanEntry where
  enabled : Bool
  ratio : Bool
  channel : Byte
  profile : Byte
  m : Byte
  every : Byte
  phase : Byte
  window : Option Window
  deriving DecidableEq, Repr

/-- The scan states (R63). -/
inductive ScanState where
  | stopped
  | waiting
  | cycle
  | stopping
  deriving DecidableEq, Repr

/-- The source of cycle-start events (R63). -/
inductive Source where
  | timer
  | pin
  deriving DecidableEq, Repr

/-- The selected edge of TRIG (R63). -/
inductive Edge where
  | rising
  | falling
  deriving DecidableEq, Repr

/-- The scan sequencer (R51, R53, R63). -/
structure Scan where
  staging : Vector ScanEntry 16
  active : Vector ScanEntry 16
  image : Vector Byte 15
  state : ScanState
  single : Bool
  cycle : BitVec 16
  overrun : BitVec 8
  commitPending : Bool
  due : List (Fin 16)
  jobsInFlight : Nat
  source : Source
  edge : Edge
  deriving DecidableEq, Repr

/-! ### Requests and jobs -/

/-- A request record (R79). -/
structure Request where
  tag : Byte
  channel : Fin 10
  profile : Fin 4
  m : Averaging
  ratio : Bool
  force : Bool
  deriving DecidableEq, Repr

/-- The request queue, oldest first, and the request image (R80, R81). -/
structure RequestBlock where
  queue : List Request
  image : Vector Byte 5
  deriving DecidableEq, Repr

/-- The origin of a job (R97). -/
inductive Origin where
  | scan (index : Fin 16) (cycle : BitVec 16)
  | request (tag : Byte)
  deriving DecidableEq, Repr

/-- The phase of a job (R97). -/
inductive Phase where
  | reference
  | main
  deriving DecidableEq, Repr

/-- A job context (R97). Its cell follows from the channel (R38). -/
structure Job where
  origin : Origin
  channel : Fin 10
  profile : Fin 4
  copy : Profile
  superseded : Bool
  m : Averaging
  ratio : Bool
  force : Bool
  phase : Phase
  slots : Nat
  pairing : Option Nat
  refreshed : Bool
  deriving DecidableEq, Repr

/-- What the dispatcher keeps for one cell: the job context (R97), and whether a dispatch
opportunity has arrived whose attempt is still to be taken (R99; log 6). -/
structure DispatchContext where
  job : Option Job
  opportunity : Bool
  deriving DecidableEq, Repr

/-! ### Reference cache -/

/-- A reference record (R117). -/
structure ReferenceRecord where
  valid : Bool
  raw : Nat
  stamp : BitVec 32
  uses : Nat
  generation : BitVec 8
  deriving DecidableEq, Repr

/-! ### Result queue -/

/-- The status of a result record (R136, R137). -/
inductive RecordStatus where
  | ok
  | overrange
  | underrange
  | stall
  | refFailed
  | unavailable
  | cancelled
  | aborted
  deriving DecidableEq, Repr

/-- The source kind of a result record (R138). -/
inductive SourceKind where
  | scan
  | request
  | reference
  deriving DecidableEq, Repr

/-- The classes of the window monitor (R155). -/
inductive WindowClass where
  | inside
  | above
  | below
  deriving DecidableEq, Repr

/-- The three things the ratio unit adds to a record together (R132, R134). -/
structure Ratio where
  reference : Nat
  ratio : Nat
  saturated : Bool
  deriving DecidableEq, Repr

/-- A result record (R136). An absent field is `none`; the presence flags of R139 are read off
it. The window-transition flag and the window state are one field, present together. -/
structure Record where
  status : RecordStatus
  kind : SourceKind
  sourceId : Byte
  cycle : Option (BitVec 16)
  channel : Fin 10
  profile : Fin 4
  samples : Nat
  raw : Option Nat
  ratio : Option Ratio
  refreshed : Bool
  transition : Option WindowClass
  stallLevel : Option Level
  sequence : BitVec 16
  timestamp : BitVec 32
  deriving DecidableEq, Repr

/-- The result queue (R140). -/
structure ResultQueue where
  records : List Record
  reserved : Nat
  nextSequence : BitVec 16
  watermark : Nat
  snapshot : Vector Byte 24
  current : Bool
  deriving DecidableEq, Repr

/-! ### Window monitor -/

/-- A window state record; `none` in `state` is UNKNOWN (R155). -/
structure WindowRecord where
  state : Option WindowClass
  pending : Option WindowClass
  count : Nat
  deriving DecidableEq, Repr

/-- The window monitor: one record per entry index, and the window change set, entry n at the bit
of weight 2 to the power n (R155, R193). -/
structure WindowMonitor where
  records : Vector WindowRecord 16
  changeSet : BitVec 16
  deriving DecidableEq, Repr

/-! ### Timebase -/

/-- The prescale (R169). -/
inductive Prescale where
  | p1
  | p2
  | p4
  | p8
  deriving DecidableEq, Repr

/-- The number of CLKIN periods of a timebase tick. -/
def Prescale.toNat : Prescale → Nat
  | .p1 => 1
  | .p2 => 2
  | .p4 => 4
  | .p8 => 8

/-- Prescaler, interval phase, interval counter and its latch (R169 to R171). The interval phase
stands at the divider while an interval tick waits to be taken (log 7). -/
structure Timebase where
  prescale : Prescale
  divider : BitVec 16
  prescalerPhase : Nat
  intervalPhase : Nat
  counter : BitVec 32
  latch : BitVec 32
  deriving DecidableEq, Repr

/-- The scan timer (R173). The remaining count stands at 0 while an expiry waits to be taken
(log 7). -/
structure ScanTimer where
  running : Bool
  remaining : Nat
  period : BitVec 16
  pendingPeriod : Option (BitVec 16)
  deriving DecidableEq, Repr

/-- The TRIG detector (R176). The confirming count stands at 2 while a confirmed edge waits to be
taken (log 7). `pin` is the pin's level as last sampled. -/
structure Trig where
  filtered : Level
  confirming : Nat
  firstSample : Bool
  pin : Level
  deriving DecidableEq, Repr

/-! ### Event unit, serial port, command decoder -/

/-- The six latched flags, event n at bit n, and the enable set (R178, R179, R181). -/
structure EventUnit where
  flags : BitVec 6
  enable : Byte
  deriving DecidableEq, Repr

/-- The frame states (R187). -/
inductive FrameState where
  | noFrame
  | header
  | write
  | read
  deriving DecidableEq, Repr

/-- The direction of a frame (R187). -/
inductive Direction where
  | read
  | write
  deriving DecidableEq, Repr

/-- The serial port (R187); `csLow` and `sckHigh` are the levels of the CS# and SCK pins, and `sdo` is
the level SDO drives in a READ frame, which changes at falling edges of SCK. -/
structure Port where
  frame : FrameState
  bitCount : BitVec 3
  shift : Byte
  direction : Direction
  pointer : BitVec 7
  csLow : Bool
  sckHigh : Bool
  sdo : Level
  deriving DecidableEq, Repr

/-- What arrives without a row of its own (log 12): an edge of SCK, with the level of SDI at a rising
one (R187), or a CLKIN period (R169). `row` puts a row of the table between them. -/
inductive WireEvent where
  | sckRises (sdi : Level)
  | sckFalls
  | period
  | row (c : Instr)
  deriving DecidableEq, Repr

/-- The command statuses (R196). -/
inductive CommandStatus where
  | none
  | done
  | badCommand
  | badParameter
  | busy
  | queueFull
  | empty
  | unavailable
  | frozen
  | notPending
  deriving DecidableEq, Repr

/-- The argument bytes, the command location, the command status and result (R194, R196). -/
structure CommandUnit where
  args : Vector Byte 8
  code : Byte
  status : CommandStatus
  result : Vector Byte 4
  deriving DecidableEq, Repr

/-- The whole part, with the queue of commands that wait. -/
structure State where
  cells : PerCell Cell
  dispatch : PerCell DispatchContext
  profiles : ProfileTable
  channels : ChannelTable
  scan : Scan
  requests : RequestBlock
  /-- One record for each cell and profile (R117). -/
  references : PerCell (Vector ReferenceRecord 4)
  results : ResultQueue
  windows : WindowMonitor
  timebase : Timebase
  timer : ScanTimer
  trig : Trig
  events : EventUnit
  port : Port
  command : CommandUnit
  /-- RESET# is held low (R199). -/
  resetHeld : Bool
  /-- How many free values have been used (log 3, log 17): the model's own. -/
  freeIndex : Nat
  /-- The commands that wait, first in, first out: the model's own. -/
  pending : List Instr
  /-- What arrives at SCK and CLKIN while no command waits, first in, first out: the model's own. -/
  wire : List WireEvent
  deriving DecidableEq, Repr

/-- Why the machine stops with a fault: never. No rule of the spec stops the part, so there is no
constructor, nobody raises one, and that is safe. -/
inductive Fault where
  deriving DecidableEq, Repr

/-- Why a command is refused. -/
inductive Refusal where
  /-- A row that has no meaning yet: raised by `exec` alone, and by none of its arms now. Safe:
  the machine stops where the hardware goes on. -/
  | notModelled (mnemonic : String)
  deriving DecidableEq, Repr

/-! ### Reset values -/

/-- The default profile (R26, R27). -/
def Profile.default : Profile :=
  { method := .period, settle := 2, cycles := 16, gate := 10, precharge := 1000,
    stallLimit := 1024, lifetime := 1000, useLimit := 8, reportReferences := false,
    generation := 0 }

/-- The profile image after a device reset (R30, R203). -/
def ProfileTable.defaultImage : Vector Byte 15 :=
  #v[1, 2, 16, 0, 10, 0, 0xE8, 3, 0, 4, 0xE8, 3, 8, 0, 0]

/-- The profile table after a device reset (R27, R30). -/
def ProfileTable.reset : ProfileTable :=
  { records := Vector.replicate 4 Profile.default, image := ProfileTable.defaultImage }

/-- A cell after a device reset or a soft reset, with the level the capacitor gives (R3, R25). -/
def Cell.reset (level : Level) : Cell :=
  { state := .down, order := none, phaseTimer := .stopped, stallTimer := none, crossings := 0,
    settleLeft := 0, accumulator := 0, samplesDone := 0, level := level,
    referenceTaken := false }

/-- A channel record after a device reset (R50). -/
def ChannelRecord.reset : ChannelRecord :=
  { enabled := true, health := .good, stalls := 0, lastLevel := none }

/-- The channel table after a device reset (R50). -/
def ChannelTable.reset : ChannelTable :=
  { records := Vector.replicate 10 ChannelRecord.reset, threshold := 3 }

/-- The default scan entry (R52). -/
def ScanEntry.default : ScanEntry :=
  { enabled := false, ratio := false, channel := 0, profile := 0, m := 1, every := 1, phase := 0,
    window := none }

/-- The entry image after a device reset (R52, R202). -/
def Scan.defaultImage : Vector Byte 15 :=
  #v[0, 0, 0, 1, 1, 0, 0, 0, 0, 0, 0, 0, 0, 0, 0]

/-- The scan sequencer after a device reset (R52, R78). -/
def Scan.reset : Scan :=
  { staging := Vector.replicate 16 ScanEntry.default,
    active := Vector.replicate 16 ScanEntry.default,
    image := Scan.defaultImage, state := .stopped, single := false, cycle := 0, overrun := 0,
    commitPending := false, due := [], jobsInFlight := 0, source := .timer, edge := .rising }

/-- The request block after a device reset (R81, R96). -/
def RequestBlock.reset : RequestBlock :=
  { queue := [], image := #v[0, 0, 0, 1, 0] }

/-- A free cell without an outstanding opportunity (R97, R114). -/
def DispatchContext.free : DispatchContext :=
  { job := none, opportunity := false }

/-- An invalid reference record (R127). -/
def ReferenceRecord.invalid : ReferenceRecord :=
  { valid := false, raw := 0, stamp := 0, uses := 0, generation := 0 }

/-- Four invalid records: those of one cell (R135). -/
def ReferenceRecord.allInvalid : Vector ReferenceRecord 4 :=
  Vector.replicate 4 ReferenceRecord.invalid

/-- The result queue after a device reset (R154). -/
def ResultQueue.reset : ResultQueue :=
  { records := [], reserved := 0, nextSequence := 0, watermark := 1,
    snapshot := Vector.replicate 24 0, current := false }

/-- A window state record after a reset or a commit that changed its entry (R166, R168). -/
def WindowRecord.unknown : WindowRecord :=
  { state := none, pending := none, count := 0 }

/-- The window monitor after either reset (R168). -/
def WindowMonitor.reset : WindowMonitor :=
  { records := Vector.replicate 16 WindowRecord.unknown, changeSet := 0 }

/-- The timebase after a device reset (R169, R177). -/
def Timebase.reset : Timebase :=
  { prescale := .p1, divider := 1000, prescalerPhase := 0, intervalPhase := 0, counter := 0,
    latch := 0 }

/-- The scan timer after a device reset (R177). DESIGN CHOICE (log 9): the remaining count, which
has no meaning until a start, is 0. -/
def ScanTimer.reset : ScanTimer :=
  { running := false, remaining := 0, period := 1000, pendingPeriod := none }

/-- The TRIG detector after a device reset: the filtered level is taken from the first sample
(R176, R177). DESIGN CHOICE (log 9): until then it reads LOW. -/
def Trig.reset (pin : Level) : Trig :=
  { filtered := .low, confirming := 0, firstSample := true, pin := pin }

/-- The event unit after a device reset (R181, R186). -/
def EventUnit.reset : EventUnit :=
  { flags := 0, enable := 0 }

/-- The serial port after a device reset, with CS# and SCK as the host holds them (R199). DESIGN
CHOICE (log 9): the shift register is 0, the direction is write and the level for SDO is LOW. -/
def Port.reset (csLow sckHigh : Bool) : Port :=
  { frame := .noFrame, bitCount := 0, shift := 0, direction := .write, pointer := 0,
    csLow := csLow, sckHigh := sckHigh, sdo := .low }

/-- The command unit after a device reset (R194, R196, R199). -/
def CommandUnit.reset : CommandUnit :=
  { args := Vector.replicate 8 0, code := 0, status := .none, result := Vector.replicate 4 0 }

/-- The part right after a device reset, RESET# released (log 8). DESIGN CHOICE (logs 8 and 9): the
Schmitt levels and the TRIG pin are LOW and CS# is high. SCK idles low (R187). -/
def State.reset : State :=
  { cells := ⟨Cell.reset .low, Cell.reset .low⟩,
    dispatch := ⟨DispatchContext.free, DispatchContext.free⟩,
    profiles := ProfileTable.reset, channels := ChannelTable.reset, scan := Scan.reset,
    requests := RequestBlock.reset,
    references := ⟨ReferenceRecord.allInvalid, ReferenceRecord.allInvalid⟩,
    results := ResultQueue.reset, windows := WindowMonitor.reset, timebase := Timebase.reset,
    timer := ScanTimer.reset, trig := Trig.reset .low, events := EventUnit.reset,
    port := Port.reset false false, command := CommandUnit.reset, resetHeld := false, freeIndex := 0,
    pending := [], wire := [] }

end Sys2Proof.Machine
end

