-- ==== Sys2Proof/Machine/Flags.lean ====
section
/-!
DEFINITION. The event unit: latched flags, level conditions, the event flags byte and IRQ#
(chapter 11).
-/
namespace Sys2Proof.Machine

/-- The six latched events (R178). -/
inductive LatchedEvent where
  | scanDone
  | scanOverrun
  | scanStopped
  | commitApplied
  | channelFault
  | requestDone
  deriving DecidableEq, Repr

/-- The event number (R178). -/
def LatchedEvent.number : LatchedEvent → Nat
  | .scanDone => 0
  | .scanOverrun => 1
  | .scanStopped => 2
  | .commitApplied => 3
  | .channelFault => 4
  | .requestDone => 5

/-- The flag's place: the weight 2 to the power of its number (R178). -/
def LatchedEvent.mask (e : LatchedEvent) : BitVec 6 := 1#6 <<< e.number

/-- Whether the flag of a latched event is raised. -/
def State.raised (e : LatchedEvent) (s : State) : Bool := s.events.flags &&& e.mask != 0

/-- An owning block raises a latched event; a raised flag stays raised (R179). -/
def State.raise (e : LatchedEvent) (s : State) : State :=
  { s with events := { s.events with flags := s.events.flags ||| e.mask } }

/-- The level condition RESULT (R151). -/
def State.resultActive (s : State) : Bool :=
  decide (s.results.watermark ≤ s.results.records.length)

/-- The level condition WINDOW (R165). -/
def State.windowActive (s : State) : Bool := s.windows.changeSet != 0

/-- The event flags byte: all eight events as they stand, each at its place (R178, R183). -/
def State.activeEvents (s : State) : Byte :=
  (s.events.flags.setWidth 8 ||| (if s.resultActive then 0x40 else 0)) |||
    (if s.windowActive then 0x80 else 0)

/-- IRQ# is low exactly when at least one event is both active and enabled (R182). -/
def State.irqLow (s : State) : Bool := s.activeEvents &&& s.events.enable != 0

end Sys2Proof.Machine
end

