-- ==== Sys2Proof/Machine/Operands.lean ====
section
/-!
DEFINITION. How commands read their operands and how values are laid out in bytes: argument bytes
(R194), the entry, profile and request images (R202, R203), the result record (R201), the codes of
R38, R63, R138 and R196. Fields of several bytes are least significant byte first (0.6).
-/
namespace Sys2Proof.Machine

/-! ### Bytes and numbers -/

/-- Byte `k` of a number, byte 0 the least significant. -/
def byteOf (n k : Nat) : Byte := BitVec.ofNat 8 (n / 256 ^ k)

/-- Two bytes, least significant first. -/
def le16 (b0 b1 : Byte) : BitVec 16 := b1 ++ b0

/-- Three bytes, least significant first. -/
def le24 (b0 b1 b2 : Byte) : BitVec 24 := b2 ++ (b1 ++ b0)

/-- A flag as a byte. -/
def flagByte (b : Bool) : Byte := if b then 1 else 0

/-- Argument byte `i` as it stands (R194). -/
def State.arg (s : State) (i : Fin 8) : Byte := s.command.args[i]

/-- Argument bytes 0 and 1, least significant first. -/
def State.arg01 (s : State) : BitVec 16 := le16 (s.arg 0) (s.arg 1)

/-- Argument bytes 1 and 2, least significant first. -/
def State.arg12 (s : State) : BitVec 16 := le16 (s.arg 1) (s.arg 2)

/-! ### Operand values and codes -/

/-- The cell a byte names: 0 for A, 1 for B (R4, R6). -/
def cellOfByte (b : Byte) : Option CellId :=
  if b = 0 then some .a else if b = 1 then some .b else none

/-- The channel a byte names: 0 to 9 (R38). -/
def channelOfByte (b : Byte) : Option (Fin 10) :=
  if h : b.toNat < 10 then some ⟨b.toNat, h⟩ else none

/-- The profile a byte names: 0 to 3 (R31, R34). -/
def profileOfByte (b : Byte) : Option (Fin 4) :=
  if h : b.toNat < 4 then some ⟨b.toNat, h⟩ else none

/-- The scan entry a byte names: 0 to 15 (R54, R55). -/
def indexOfByte (b : Byte) : Option (Fin 16) :=
  if h : b.toNat < 16 then some ⟨b.toNat, h⟩ else none

/-- A yes or no byte: 1 or 0. -/
def flagOfByte (b : Byte) : Option Bool :=
  if b = 0 then some false else if b = 1 then some true else none

/-- M, written as its value (R202, R203). -/
def averagingOfByte (b : Byte) : Option Averaging :=
  if b = 1 then some .m1 else if b = 2 then some .m2 else if b = 4 then some .m4
  else if b = 8 then some .m8 else if b = 16 then some .m16 else none

/-- The prescale byte of TIMEBASE_SET (R172). -/
def prescaleOfByte (b : Byte) : Option Prescale :=
  if b = 1 then some .p1 else if b = 2 then some .p2 else if b = 4 then some .p4
  else if b = 8 then some .p8 else none

/-- The source byte of SCAN_CONFIG (R63, R67). -/
def sourceOfByte (b : Byte) : Option Source :=
  if b = 0 then some .timer else if b = 1 then some .pin else none

/-- The edge byte of SCAN_CONFIG (R63, R67). -/
def edgeOfByte (b : Byte) : Option Edge :=
  if b = 0 then some .rising else if b = 1 then some .falling else none

/-- The method code of a profile image (R26). -/
def methodOfByte (b : Byte) : Option Method :=
  if b = 0 then some .count else if b = 1 then some .period
  else if b = 2 then some .slope else none

/-- The method code (R26). -/
def Method.code : Method → Byte
  | .count => 0
  | .period => 1
  | .slope => 2

/-- The source code (R63). -/
def Source.code : Source → Byte
  | .timer => 0
  | .pin => 1

/-- The edge code (R63). -/
def Edge.code : Edge → Byte
  | .rising => 0
  | .falling => 1

/-- The scan state code (R63). -/
def ScanState.code : ScanState → Byte
  | .stopped => 0
  | .waiting => 1
  | .cycle => 2
  | .stopping => 3

/-- The cell state code (01, 1.2). -/
def CellState.code : CellState → Byte
  | .down => 0
  | .resting => 1
  | .idle => 2
  | .starting => 3
  | .measuring => 4
  | .precharging => 5
  | .discharging => 6

/-- The health code (R38). -/
def Health.code : Health → Byte
  | .good => 0
  | .suspect => 1
  | .faulted => 2

/-- The last stall level code (R38). -/
def stallLevelCode : Option Level → Byte
  | none => 0
  | some .low => 1
  | some .high => 2

/-- The record status code (R137). -/
def RecordStatus.code : RecordStatus → Byte
  | .ok => 1
  | .overrange => 2
  | .underrange => 3
  | .stall => 4
  | .refFailed => 5
  | .unavailable => 6
  | .cancelled => 7
  | .aborted => 8

/-- The source kind code (R138). -/
def SourceKind.code : SourceKind → Byte
  | .scan => 1
  | .request => 2
  | .reference => 3

/-- The window state code of a record (R139). -/
def windowCode : Option WindowClass → Byte
  | none => 0
  | some .inside => 1
  | some .above => 2
  | some .below => 3

/-- The command status code (R196). -/
def CommandStatus.code : CommandStatus → Byte
  | .none => 0
  | .done => 1
  | .badCommand => 2
  | .badParameter => 3
  | .busy => 4
  | .queueFull => 5
  | .empty => 6
  | .unavailable => 7
  | .frozen => 8
  | .notPending => 9

/-! ### The profile image (R30, R203) -/

/-- A field of the profile image, in the order of field numbers (R26, R203). -/
def profileNumber (img : Vector Byte 15) : Nat → Nat
  | 1 => img[0].toNat
  | 2 => img[1].toNat
  | 3 => (le16 img[2] img[3]).toNat
  | 4 => (le16 img[4] img[5]).toNat
  | 5 => (le16 img[6] img[7]).toNat
  | 6 => (le16 img[8] img[9]).toNat
  | 7 => (le16 img[10] img[11]).toNat
  | 8 => img[12].toNat
  | 9 => img[13].toNat
  | _ => 0

/-- The range of a field of the profile image (R26). -/
def profileFieldInRange (img : Vector Byte 15) (n : Nat) : Bool :=
  let v := profileNumber img n
  match n with
  | 1 => decide (v ≤ 2)
  | 2 => decide (v ≤ 15)
  | 3 => decide (1 ≤ v ∧ v ≤ 256)
  | 4 => decide (1 ≤ v ∧ v ≤ 1000)
  | 5 => decide (1 ≤ v)
  | 6 => decide (1 ≤ v)
  | 8 => decide (1 ≤ v)
  | 9 => decide (v ≤ 1)
  | _ => true

/-- The number of the first field that is out of range, checked from 1 to 9 (R31, R32). -/
def profileFault (img : Vector Byte 15) : Option Nat :=
  [1, 2, 3, 4, 5, 6, 7, 8, 9].find? fun n => !(profileFieldInRange img n)

/-- The nine fields of the image as a profile with the given generation (R33). -/
def profileOfImage (img : Vector Byte 15) (generation : BitVec 8) : Profile :=
  { method := (methodOfByte img[0]).getD .period
    settle := profileNumber img 2
    cycles := profileNumber img 3
    gate := profileNumber img 4
    precharge := profileNumber img 5
    stallLimit := profileNumber img 6
    lifetime := profileNumber img 7
    useLimit := profileNumber img 8
    reportReferences := decide (profileNumber img 9 = 1)
    generation := generation }

/-- The image of a profile, every byte (R34, R203). -/
def imageOfProfile (p : Profile) : Vector Byte 15 :=
  #v[p.method.code, byteOf p.settle 0, byteOf p.cycles 0, byteOf p.cycles 1, byteOf p.gate 0,
     byteOf p.gate 1, byteOf p.precharge 0, byteOf p.precharge 1, byteOf p.stallLimit 0,
     byteOf p.stallLimit 1, byteOf p.lifetime 0, byteOf p.lifetime 1, byteOf p.useLimit 0,
     flagByte p.reportReferences, p.generation]

/-! ### The entry image (R53, R202) -/

/-- The entry an image holds: bits 0 to 2 of byte 0 are read, its other bits are not; with the
window-present flag clear the window is absent (R54, R202). -/
def entryOfImage (img : Vector Byte 15) : ScanEntry :=
  { enabled := img[0].getLsbD 0
    ratio := img[0].getLsbD 1
    channel := img[1]
    profile := img[2]
    m := img[3]
    every := img[4]
    phase := img[5]
    window :=
      if img[0].getLsbD 2 then
        some { low := le24 img[7] img[8] img[9], high := le24 img[10] img[11] img[12],
               hysteresis := le16 img[13] img[14], qualify := img[6] }
      else none }

/-- The image of an entry, every byte; an absent window reads 0 in bytes 6 to 14 (R55, R202). -/
def imageOfEntry (e : ScanEntry) : Vector Byte 15 :=
  let flags := flagByte e.enabled ||| (flagByte e.ratio <<< 1) |||
    (flagByte e.window.isSome <<< 2)
  match e.window with
  | none =>
    #v[flags, e.channel, e.profile, e.m, e.every, e.phase, 0, 0, 0, 0, 0, 0, 0, 0, 0]
  | some w =>
    #v[flags, e.channel, e.profile, e.m, e.every, e.phase, w.qualify,
       byteOf w.low.toNat 0, byteOf w.low.toNat 1, byteOf w.low.toNat 2,
       byteOf w.high.toNat 0, byteOf w.high.toNat 1, byteOf w.high.toNat 2,
       byteOf w.hysteresis.toNat 0, byteOf w.hysteresis.toNat 1]

/-- The number of the first check of R57 that an entry fails. An entry that is not enabled is not
checked, and check 5 is made only if check 4 passed. -/
def ScanEntry.failedCheck (e : ScanEntry) : Option Nat :=
  if !e.enabled then none
  else if (channelOfByte e.channel).isNone then some 1
  else if (profileOfByte e.profile).isNone then some 2
  else if (averagingOfByte e.m).isNone then some 3
  else if e.every = 0 then some 4
  else if e.every ≤ e.phase then some 5
  else
    match e.window with
    | none => none
    | some w =>
      if w.qualify = 0 ∨ 15 < w.qualify.toNat then some 6
      else if w.high ≤ w.low then some 7
      else none

/-! ### The request image (R81, R203) -/

/-- The ratio flag of the options byte (R203). -/
def requestRatio (img : Vector Byte 5) : Bool := img[4].getLsbD 0

/-- The force flag of the options byte (R203). -/
def requestForce (img : Vector Byte 5) : Bool := img[4].getLsbD 1

/-! ### The result record (R139, R201) -/

/-- The flags byte of a record: presence flags read off the fields, and the other four as carried
(R139). -/
def Record.flags (r : Record) : Byte :=
  flagByte r.raw.isSome ||| (flagByte r.ratio.isSome <<< 1) ||| (flagByte r.ratio.isSome <<< 2) |||
    (flagByte r.cycle.isSome <<< 3) |||
    (flagByte (match r.ratio with | some q => q.saturated | none => false) <<< 4) |||
    (flagByte r.refreshed <<< 5) ||| (flagByte r.transition.isSome <<< 6) |||
    (flagByte (decide (r.stallLevel = some .high)) <<< 7)

/-- The twenty-four bytes of a record; the bytes of an absent field read 0 (R201). -/
def Record.bytes (r : Record) : Vector Byte 24 :=
  let cycle := (r.cycle.getD 0).toNat
  let raw := r.raw.getD 0
  let reference := match r.ratio with | some q => q.reference | none => 0
  let ratio := match r.ratio with | some q => q.ratio | none => 0
  #v[r.status.code, r.kind.code, r.sourceId,
     BitVec.ofNat 8 (r.channel.val + 16 * r.profile.val), BitVec.ofNat 8 r.samples, r.flags,
     windowCode r.transition, byteOf r.sequence.toNat 0, byteOf r.sequence.toNat 1,
     byteOf cycle 0, byteOf cycle 1, byteOf raw 0, byteOf raw 1, byteOf raw 2,
     byteOf reference 0, byteOf reference 1, byteOf reference 2,
     byteOf ratio 0, byteOf ratio 1, byteOf ratio 2,
     byteOf r.timestamp.toNat 0, byteOf r.timestamp.toNat 1, byteOf r.timestamp.toNat 2,
     byteOf r.timestamp.toNat 3]

/-- The empty form (R146). -/
def emptyForm : Vector Byte 24 := Vector.replicate 24 0

/-- One byte of the channel health region (R193). -/
def ChannelRecord.byte (r : ChannelRecord) : Byte :=
  flagByte r.enabled ||| (r.health.code <<< 1) ||| (BitVec.ofNat 8 r.stalls <<< 3) |||
    (stallLevelCode r.lastLevel <<< 6)

end Sys2Proof.Machine
end

