-- ==== Sys2Proof/Machine/Ops.lean ====
section
/-!
DEFINITION. The shared operations over the part's registers: access to cells, jobs and channels,
dispatch opportunities (R99), the reference cache (chapter 7), the channel table's health update
(chapter 3), the result queue's slots and appends (chapter 8), and the report of a command (R196).
-/
namespace Sys2Proof.Machine

/-! ### Access -/

/-- The state of a cell. -/
def State.cell (s : State) (c : CellId) : Cell := s.cells.get c

/-- Replaces a cell. -/
def State.setCell (s : State) (c : CellId) (k : Cell) : State :=
  { s with cells := s.cells.set c k }

/-- The job context of a cell (R97); `none` is absent, the cell is free. -/
def State.job (s : State) (c : CellId) : Option Job := (s.dispatch.get c).job

/-- Replaces the job context of a cell. -/
def State.setJob (s : State) (c : CellId) (j : Option Job) : State :=
  { s with dispatch := s.dispatch.set c { s.dispatch.get c with job := j } }

/-- Whether an opportunity of the cell waits for its attempt (R99). -/
def State.opportunity (s : State) (c : CellId) : Bool := (s.dispatch.get c).opportunity

/-- Sets or clears the opportunity of a cell. -/
def State.setOpportunity (s : State) (c : CellId) (b : Bool) : State :=
  { s with dispatch := s.dispatch.set c { s.dispatch.get c with opportunity := b } }

/-- The record of a channel (R38). -/
def State.channel (s : State) (ch : Fin 10) : ChannelRecord := s.channels.records[ch]

/-- Replaces the record of a channel. -/
def State.setChannel (s : State) (ch : Fin 10) (r : ChannelRecord) : State :=
  { s with channels := { s.channels with records := s.channels.records.set ch r } }

/-- A profile record (R26). -/
def State.profile (s : State) (p : Fin 4) : Profile := s.profiles.records[p]

/-- A reference record (R117). -/
def State.reference (s : State) (c : CellId) (p : Fin 4) : ReferenceRecord :=
  (s.references.get c)[p]

/-- Replaces a reference record. -/
def State.setReference (s : State) (c : CellId) (p : Fin 4) (r : ReferenceRecord) : State :=
  { s with references := s.references.set c ((s.references.get c).set p r) }

/-- Replaces the scan sequencer's registers. -/
def State.setScan (s : State) (x : Scan) : State := { s with scan := x }

/-! ### Channels (chapter 3) -/

/-- The cell of a channel: 0 to 3 and 8 are cell A's, 4 to 7 and 9 are cell B's (R38). -/
def cellOf (ch : Fin 10) : CellId := if ch.val < 4 ∨ ch.val = 8 then .a else .b

/-- The reference channel of a cell (R38). -/
def referenceChannel : CellId → Fin 10
  | .a => 8
  | .b => 9

/-- Whether a channel is a reference channel. -/
def isReference (ch : Fin 10) : Bool := decide (8 ≤ ch.val)

/-- Available: enabled, and GOOD or SUSPECT (R39). -/
def ChannelRecord.available (r : ChannelRecord) : Bool :=
  r.enabled && decide (r.health ≠ .faulted)

/-- Availability read from the channel table as it stands (R39). -/
def State.available (s : State) (ch : Fin 10) : Bool := (s.channel ch).available

/-! ### Dispatch opportunities (R99) -/

/-- An IDLE cell with no job context. -/
def State.idleFree (s : State) (c : CellId) : Bool :=
  decide ((s.cell c).state = .idle) && (s.job c).isNone

/-- An opportunity arrives: a cell that is not IDLE and free does nothing with it and does not
remember it (R99). DEDUCED (log 6): the attempt itself is a step of its own. -/
def State.offer (s : State) (c : CellId) : State :=
  if s.idleFree c then s.setOpportunity c true else s

/-- An opportunity for both cells (R99). -/
def State.offerBoth (s : State) : State := (s.offer .a).offer .b

/-! ### The reference cache (chapter 7) -/

/-- Invalidates one record (R127). -/
def State.invalidate (s : State) (c : CellId) (p : Fin 4) : State :=
  s.setReference c p ReferenceRecord.invalid

/-- Invalidates the four records of a cell (R129). -/
def State.invalidateCell (s : State) (c : CellId) : State :=
  { s with references := s.references.set c ReferenceRecord.allInvalid }

/-- Invalidates the two records of a profile (R128). -/
def State.invalidateProfile (s : State) (p : Fin 4) : State :=
  (s.invalidate .a p).invalidate .b p

/-- Invalidates all eight records (R130, R135). -/
def State.invalidateAll (s : State) : State :=
  { s with references := ⟨ReferenceRecord.allInvalid, ReferenceRecord.allInvalid⟩ }

/-- The number of valid records of a cell (R130). -/
def State.validCount (s : State) (c : CellId) : Nat :=
  (s.references.get c).toList.countP (·.valid)

/-- The five conditions of freshness, at the moment of the attempt (R119); the age wraps (R120). -/
def State.fresh (s : State) (c : CellId) (p : Fin 4) : Bool :=
  let r := s.reference c p
  let pr := s.profile p
  r.valid && decide (r.generation = pr.generation) && decide (pr.lifetime ≠ 0) &&
    decide ((s.timebase.counter - r.stamp).toNat < pr.lifetime) && decide (r.uses < pr.useLimit)

/-- The cache is offered a reference outcome of a job: an OK outcome is stored when the three
conditions of R123 hold and otherwise leaves the record (R124); any other outcome invalidates the
record (R125). `uses` is the use count of a store. -/
def State.offerReference (s : State) (c : CellId) (j : Job) (o : Outcome) (uses : Nat) : State :=
  match o with
  | .ok _ raw =>
    if j.copy.generation = (s.profile j.profile).generation ∧
        s.available (referenceChannel c) = true ∧ j.superseded = false then
      s.setReference c j.profile
        { valid := true, raw := raw, stamp := s.timebase.counter, uses := uses,
          generation := j.copy.generation }
    else s
  | _ => s.invalidate c j.profile

/-! ### The health update (R40 to R44) -/

/-- The record after a STALL outcome (R41). -/
def ChannelRecord.stalled (threshold : Nat) (level : Level) (r : ChannelRecord) : ChannelRecord :=
  let n := min 7 (r.stalls + 1)
  { r with
    stalls := n
    lastLevel := some level
    health :=
      if threshold ≤ n then .faulted
      else if r.health = .good then .suspect
      else r.health }

/-- The record after an outcome of any other status (R42). -/
def ChannelRecord.passed (forced : Bool) (r : ChannelRecord) : ChannelRecord :=
  { r with
    stalls := 0
    lastLevel := none
    health := if r.health = .faulted ∧ forced = false then .faulted else .good }

/-- The health update of a delivered outcome on the channel converted (R40), with what it hands
on: CHANNEL_FAULT (R43), the invalidation of a cell's reference records and the opportunity of a
channel that becomes available (R44). -/
def State.updateHealth (s : State) (ch : Fin 10) (forced : Bool) (o : Outcome) : State :=
  let r := s.channel ch
  match o with
  | .stall _ level =>
    let r' := r.stalled s.channels.threshold level
    let s := s.setChannel ch r'
    if r.health ≠ .faulted ∧ r'.health = .faulted then
      let s := s.raise .channelFault
      if isReference ch then s.invalidateCell (cellOf ch) else s
    else s
  | _ =>
    let r' := r.passed forced
    let s := s.setChannel ch r'
    if r.available = false ∧ r'.available = true then s.offer (cellOf ch) else s

/-! ### The result queue (chapter 8) -/

/-- The free count (R140). -/
def State.freeSlots (s : State) : Nat :=
  Config.resultPlaces - s.results.records.length - s.results.reserved

/-- A granted claim adds its slots to the reserved count (R102, R141). -/
def State.reserve (s : State) (k : Nat) : State :=
  { s with results := { s.results with reserved := s.results.reserved + k } }

/-- An append into a reserved slot (R142); a record of REQUEST source kind raises REQUEST_DONE
(R94). -/
def State.append (s : State) (r : Record) : State :=
  let q := s.results
  let s := { s with results :=
    { q with
      records := q.records ++ [{ r with sequence := q.nextSequence }]
      reserved := q.reserved - 1
      nextSequence := q.nextSequence + 1 } }
  if r.kind = .request then s.raise .requestDone else s

/-- A release of an unused reservation, an opportunity for both cells (R143). -/
def State.release (s : State) : State :=
  ({ s with results := { s.results with reserved := s.results.reserved - 1 } }).offerBoth

/-! ### The report of a command (R194 to R196) -/

/-- What a command answers: its status, its four result bytes and the state it leaves. -/
structure Reply where
  status : CommandStatus
  result : Vector Byte 4
  state : State

/-- A DONE report. -/
def Reply.done (b0 b1 b2 b3 : Byte) (s : State) : Reply := ⟨.done, #v[b0, b1, b2, b3], s⟩

/-- A refusal: the state of the part stays as it was (R196). -/
def Reply.refuse (status : CommandStatus) (b0 b1 b2 b3 : Byte) (s : State) : Reply :=
  ⟨status, #v[b0, b1, b2, b3], s⟩

/-- A whole byte can complete at the command location: a WRITE frame, with no bit of a byte captured,
whose address pointer stands there (R188, R195). -/
def State.atCommand (s : State) : Bool :=
  decide (s.port.frame = .write) && decide (s.port.bitCount = 0) &&
    decide (s.port.pointer.toNat = Config.commandOffset)

/-- A byte is complete at a rising edge of SCK: the shift register holds it and the bit count is 0
(R187). -/
def Port.complete (b : Byte) (p : Port) : Port :=
  { p with shift := b, bitCount := 0, sckHigh := true }

/-- A code completes at the command location: the command is taken whole, with its report; the
address pointer holds (R189, R194 to R196). DEDUCED (log 1): outside a WRITE frame at that offset,
and in the middle of a byte, no whole code can arrive, and nothing changes. -/
def State.takeCommand (s : State) (code : Byte) (body : State → Reply) : State :=
  if s.atCommand then
    let s := { s with port := s.port.complete code }
    let r := body s
    { r.state with command :=
      { r.state.command with code := code, status := r.status, result := r.result } }
  else s

end Sys2Proof.Machine
end

