-- ==== Sys2Proof/Machine/CellOps.lean ====
section
/-!
DEFINITION. What a conversion cell does by itself (chapter 1): taking an order, crossings, expiries,
rests, aborts, and the counting of its timers. Functions that may end the order answer the outcome
beside the cell; the cell then enters RESTING by `Cell.rest` when the outcome is delivered.
-/
namespace Sys2Proof.Machine

/-- The order is in progress: STARTING, MEASURING, PRECHARGING or DISCHARGING (R6, R24). -/
def CellState.converting : CellState → Bool
  | .starting | .measuring | .precharging | .discharging => true
  | .down | .resting | .idle => false

/-- The count of the phase timer; 0 when it is stopped. -/
def PhaseTimer.value : PhaseTimer → Nat
  | .stopped => 0
  | .down n => n
  | .up n => n

/-! ### Enabling, disabling, resting -/

/-- CELL_ENABLE on a cell: DOWN enters RESTING, any other state is unchanged (R4). -/
def Cell.enable (k : Cell) : Cell :=
  if k.state = .down then { k with state := .resting, phaseTimer := .down Config.restTime } else k

/-- CELL_DISABLE on a cell: DOWN from whatever state it was in (R6). -/
def Cell.disable (k : Cell) : Cell := Cell.reset k.level

/-- The end of an order, with or without an outcome: RESTING with a full rest (R23, R24). The settle
count remaining keeps its value (log 20). -/
def Cell.rest (k : Cell) : Cell :=
  { k with
    state := .resting, order := none, phaseTimer := .down Config.restTime, stallTimer := none,
    crossings := 0, accumulator := 0, samplesDone := 0, referenceTaken := false }

/-- An abort by cancellation: an order in progress ends in a full rest; a rest goes on (R24). -/
def Cell.abort (k : Cell) : Cell := if k.state.converting then k.rest else k

/-- The rest expires: IDLE, with no order (R5). -/
def Cell.endRest (k : Cell) : Cell :=
  { k with state := .idle, order := none, phaseTimer := .stopped }

/-! ### Taking an order (R7, R8, R15) -/

/-- PRECHARGING is entered: the phase timer counts P ticks down, the stall timer does not run
(R15). -/
def Cell.precharge (o : Order) (k : Cell) : Cell :=
  { k with state := .precharging, phaseTimer := .down o.precharge, stallTimer := none }

/-- A cell takes an order (R7): STARTING for COUNT and PERIOD (R8), PRECHARGING for SLOPE (R15). -/
def Cell.take (o : Order) (k : Cell) : Cell :=
  let k := { k with
    order := some o, accumulator := 0, samplesDone := 0, crossings := 0, referenceTaken := false }
  match o.method with
  | .slope => k.precharge o
  | .count | .period =>
    { k with state := .starting, settleLeft := o.settle, stallTimer := some 0,
             phaseTimer := .stopped }

/-! ### Samples -/

/-- A COUNT gate opens: G interval ticks, in timebase ticks of the divider in force (R10, R11). -/
def Cell.openGate (divider : Nat) (o : Order) (k : Cell) : Cell :=
  { k with crossings := 0, phaseTimer := .down (o.gate * divider) }

/-- A sample of an oscillating method begins at a lower crossing (R11, R13). -/
def Cell.beginSample (divider : Nat) (o : Order) (k : Cell) : Cell :=
  match o.method with
  | .count => k.openGate divider o
  | .period | .slope => { k with crossings := 0, phaseTimer := .up 0 }

/-- A sample completes with its raw value: it is added to the accumulator, and with the last sample
the order ends OK with the mean, remainder discarded (R17, R18). -/
def Cell.completeSample (o : Order) (raw : Nat) (k : Cell) : Cell × Option Outcome :=
  let sum := k.accumulator + raw
  let done := k.samplesDone + 1
  let k := { k with accumulator := sum, samplesDone := done }
  if done < o.m.toNat then (k, none) else (k, some (.ok o.m.toNat (sum / o.m.toNat)))

/-! ### Crossings -/

/-- An upper crossing: only a LOW level rises; in STARTING and MEASURING the stall timer restarts
(R1, R9, R21). -/
def Cell.upperCrossing (k : Cell) : Cell :=
  if k.level = .low then
    let k := { k with level := .high }
    match k.state with
    | .starting | .measuring => { k with stallTimer := some 0 }
    | .down | .resting | .idle | .precharging | .discharging => k
  else k

/-- The crossing that ends settle: MEASURING, and the first sample begins at it (R9). -/
def Cell.endSettle (divider : Nat) (o : Order) (k : Cell) : Cell :=
  { k with state := .measuring }.beginSample divider o

/-- A lower crossing in STARTING: the reference point, then the settle cycles (R8, R9). -/
def Cell.settleCrossing (divider : Nat) (o : Order) (k : Cell) : Cell :=
  let k := { k with stallTimer := some 0 }
  if k.referenceTaken = false then
    let k := { k with referenceTaken := true }
    if k.settleLeft = 0 then k.endSettle divider o else k
  else
    let k := { k with settleLeft := k.settleLeft - 1 }
    if k.settleLeft = 0 then k.endSettle divider o else k

/-- A lower crossing in MEASURING under COUNT: counted while the gate is open, the 65536th ends the
order OVERRANGE (R12), and between gates it opens the next one (R11). -/
def Cell.countCrossing (divider : Nat) (o : Order) (k : Cell) : Cell × Option Outcome :=
  let k := { k with stallTimer := some 0 }
  match k.phaseTimer with
  | .down _ =>
    if Config.maxCrossings ≤ k.crossings then (k, some (.overrange k.samplesDone))
    else ({ k with crossings := k.crossings + 1 }, none)
  | .stopped | .up _ => (k.openGate divider o, none)

/-- A lower crossing in MEASURING under PERIOD: the Nth ends the sample, whose raw value is the tick
count, at most 16777215 (R13, R14); with samples remaining it begins the next. DESIGN CHOICE (log 26):
where the crossing is taken before the overflow of the same tick, that tick counts in neither
sample. -/
def Cell.periodCrossing (divider : Nat) (o : Order) (k : Cell) : Cell × Option Outcome :=
  let k := { k with stallTimer := some 0 }
  if k.crossings + 1 < o.cycles then ({ k with crossings := k.crossings + 1 }, none)
  else
    match k.completeSample o (min k.phaseTimer.value Config.maxTicks) with
    | (k, none) => (k.beginSample divider o, none)
    | (k, some out) => (k, some out)

/-- The lower crossing that ends a SLOPE discharge (R16); with samples remaining the cell returns to
PRECHARGING. -/
def Cell.dischargeCrossing (o : Order) (k : Cell) : Cell × Option Outcome :=
  match k.completeSample o k.phaseTimer.value with
  | (k, none) => (k.precharge o, none)
  | (k, some out) => (k, some out)

/-- The crossing would end a PERIOD or SLOPE sample at the very tick it began. "A crossing cannot
coincide with the crossing before it" (R13), and a discharge lasts at least 1 tick (R16): such a
crossing does not occur (log 13). -/
def Cell.coincides (k : Cell) : Bool :=
  match k.state, k.order with
  | .measuring, some o =>
    decide (o.method ≠ .count) && decide (o.cycles ≤ k.crossings + 1) &&
      decide (k.phaseTimer.value = 0)
  | .discharging, some _ => decide (k.phaseTimer.value = 0)
  | _, _ => false

/-- A lower crossing: only a HIGH level falls (R1); the cell acts on it in STARTING, MEASURING and
DISCHARGING. -/
def Cell.lowerCrossing (divider : Nat) (k : Cell) : Cell × Option Outcome :=
  if k.level = .high ∧ k.coincides = false then
    let k := { k with level := .low }
    match k.state, k.order with
    | .starting, some o => (k.settleCrossing divider o, none)
    | .measuring, some o =>
      match o.method with
      | .count => k.countCrossing divider o
      | .period | .slope => k.periodCrossing divider o
    | .discharging, some o => k.dischargeCrossing o
    | _, _ => (k, none)
  else (k, none)

/-! ### Expiries: when each is due, and what it does -/

/-- The rest has lasted its 32 ticks (R5). -/
def Cell.restDue (k : Cell) : Bool :=
  decide (k.state = .resting) && decide (k.phaseTimer = .down 0)

/-- An open COUNT gate has reached 0 (R10). -/
def Cell.gateDue (k : Cell) : Bool :=
  match k.order with
  | some o => decide (k.state = .measuring) && decide (o.method = .count) &&
      decide (k.phaseTimer = .down 0)
  | none => false

/-- The gate expiry: a count from 1 completes the sample, a count of 0 ends the order UNDERRANGE
(R11, R20). The gate is then closed. -/
def Cell.expireGate (k : Cell) : Cell × Option Outcome :=
  match k.order with
  | some o =>
    let k := { k with phaseTimer := .stopped }
    if k.crossings = 0 then (k, some (.underrange k.samplesDone))
    else k.completeSample o k.crossings
  | none => (k, none)

/-- A precharge has reached 0 (R15). -/
def Cell.prechargeDue (k : Cell) : Bool :=
  decide (k.state = .precharging) && decide (k.phaseTimer = .down 0) && k.order.isSome

/-- The release that ends a precharge: UNDERRANGE when the level is LOW, else DISCHARGING with both
timers from 0 (R15, R16). -/
def Cell.releaseCapacitor (k : Cell) : Cell × Option Outcome :=
  match k.level with
  | .low => (k, some (.underrange k.samplesDone))
  | .high =>
    ({ k with state := .discharging, phaseTimer := .up 0, stallTimer := some 0 }, none)

/-- The stall timer has reached the stall limit of L × 64 ticks (R21). -/
def Cell.stallDue (k : Cell) : Bool :=
  match k.order, k.stallTimer with
  | some o, some n => k.state.converting && decide (o.stallLimit * 64 ≤ n)
  | _, _ => false

/-- The outcome of a stall expiry, with the level as it stands (R21). -/
def Cell.stallOutcome (k : Cell) : Outcome := .stall k.samplesDone k.level

/-- The tick count of a PERIOD sample has passed 16777215 (R14; log 7). -/
def Cell.overflowDue (k : Cell) : Bool :=
  match k.order, k.phaseTimer with
  | some o, .up n => decide (k.state = .measuring) && decide (o.method = .period) &&
      decide (Config.maxTicks < n)
  | _, _ => false

/-! ### The timers at a timebase tick -/

/-- The phase timer counts one tick, down or up (R10, R13, R15, R16). -/
def PhaseTimer.tick : PhaseTimer → PhaseTimer
  | .stopped => .stopped
  | .down n => .down (n - 1)
  | .up n => .up (n + 1)

/-- Both timers of a cell count one tick (R3, R21). -/
def Cell.tick (k : Cell) : Cell :=
  { k with phaseTimer := k.phaseTimer.tick, stallTimer := k.stallTimer.map (· + 1) }

end Sys2Proof.Machine
end

