-- ==== Sys2Proof/Machine/MonitorOps.lean ====
section
/-!
DEFINITION. The window monitor: the compared value, the class of a value, qualification and
transitions (chapter 9), and the resets of window states by a commit (R166).
-/
namespace Sys2Proof.Machine

/-- The compared value of a record, by the kind of its entry (R157). -/
def comparedValue (e : ScanEntry) (r : Record) : Option Nat :=
  if e.ratio = true ∧ e.channel.toNat < 8 then r.ratio.map (·.ratio) else r.raw

/-- A sum clamped to 16777215 (R159). -/
def clampedSum (x h : Nat) : Nat := min (x + h) Config.maxValue

/-- The class of a value, by the present state; `none` is UNKNOWN. Differences below 0 are taken as
0 (R159). -/
def classify (state : Option WindowClass) (low high h v : Nat) : WindowClass :=
  match state with
  | none => if v < low then .below else if high < v then .above else .inside
  | some .inside =>
    if clampedSum high h < v then .above else if v < low - h then .below else .inside
  | some .above =>
    if high - h < v then .above else if low ≤ v then .inside else .below
  | some .below =>
    if v < clampedSum low h then .below else if v ≤ high then .inside else .above

/-- A window state record after a record of its entry with compared value `v`, and the state of a
transition if one took place (R158 to R162). -/
def WindowRecord.judge (w : Window) (v : Option Nat) (k : WindowRecord) :
    WindowRecord × Option WindowClass :=
  match v with
  | none => ({ k with pending := none, count := 0 }, none)
  | some v =>
    let c := classify k.state w.low.toNat w.high.toNat w.hysteresis.toNat v
    match k.state with
    | none => ({ state := some c, pending := none, count := 0 }, none)
    | some present =>
      if c = present then ({ k with pending := none, count := 0 }, none)
      else
        let n := if k.pending = some c then k.count + 1 else 1
        if w.qualify.toNat ≤ n then ({ state := some c, pending := none, count := 0 }, some c)
        else ({ k with pending := some c, count := n }, none)

/-- The member of the window change set for an entry index (R193). -/
def memberMask (i : Fin 16) : BitVec 16 := 1#16 <<< i.val

/-- The window monitor sees the record that ends a scan job, before it is appended (R156): the
record with its mark, and the state with the entry's window state and the change set (R162). -/
def State.monitor (s : State) (i : Fin 16) (r : Record) : Record × State :=
  match s.scan.active[i].window with
  | none => (r, s)
  | some w =>
    let (k, t) := (s.windows.records[i]).judge w (comparedValue s.scan.active[i] r)
    let set := if t.isSome then s.windows.changeSet ||| memberMask i else s.windows.changeSet
    ({ r with transition := t },
      { s with windows := { records := s.windows.records.set i k, changeSet := set } })

/-- The window states of the changed entries return to UNKNOWN and leave the change set (R166). -/
def WindowMonitor.resetChanged (changed : Fin 16 → Bool) (w : WindowMonitor) : WindowMonitor :=
  { records := Vector.ofFn fun i => if changed i then WindowRecord.unknown else w.records[i]
    changeSet := BitVec.ofFnLE fun i => w.changeSet.getLsbD i.val && !(changed i) }

end Sys2Proof.Machine
end

