-- ==== Sys2Proof/Machine/ScanOps.lean ====
section
/-!
DEFINITION. The scan sequencer's shared operations: applying a commit (R60), building a due list
(R69), starting a cycle (R68), overruns (R70), and the completion check (R74, R75).
-/
namespace Sys2Proof.Machine

/-- The commit's changed indexes: entries are equal when every field is, window fields only when a
window is present (R60). -/
def Scan.changed (x : Scan) (i : Fin 16) : Bool := decide (x.staging[i] ≠ x.active[i])

/-- A commit is applied (R60): the active table takes the staging table, the window states of the
changed entries are reset (R166), the pending flag is clear and COMMIT_APPLIED is raised. -/
def State.applyCommit (s : State) : State :=
  ({ s with
      scan := { s.scan with active := s.scan.staging, commitPending := false }
      windows := s.windows.resetChanged s.scan.changed }).raise .commitApplied

/-- A pending commit is applied; with none pending nothing happens. -/
def State.applyPending (s : State) : State :=
  if s.scan.commitPending then s.applyCommit else s

/-- The scan reaches STOPPED: the scan timer stops (R173), a pending period becomes the current one
(R175) and a pending commit is applied (R60). -/
def State.reachStopped (s : State) : State :=
  ({ s with
      scan := { s.scan with state := .stopped }
      timer := { s.timer with
        running := false
        period := s.timer.pendingPeriod.getD s.timer.period
        pendingPeriod := none } }).applyPending

/-- The completion check: in CYCLE with an empty due list and no scan job in flight the cycle
completes (R74); in STOPPING the end of the last scan job brings STOPPED (R75). -/
def State.completionCheck (s : State) : State :=
  match s.scan.state with
  | .cycle =>
    if s.scan.due = [] ∧ s.scan.jobsInFlight = 0 then
      let s := s.raise .scanDone
      if s.scan.single then
        ((s.setScan { s.scan with single := false }).raise .scanStopped).reachStopped
      else s.setScan { s.scan with state := .waiting }
    else s
  | .stopping =>
    if s.scan.jobsInFlight = 0 then (s.raise .scanStopped).reachStopped else s
  | .stopped | .waiting => s

/-- The end of a scan job is handed to the scan sequencer (R73). -/
def State.endScanJob (s : State) : State :=
  (s.setScan { s.scan with jobsInFlight := s.scan.jobsInFlight - 1 }).completionCheck

/-- The parameters an entry gives its job, when its bytes are in range: an enabled active entry's
always are (R51, R57). -/
def ScanEntry.parameters (e : ScanEntry) : Option (Fin 10 × Fin 4 × Averaging) :=
  match channelOfByte e.channel, profileOfByte e.profile, averagingOfByte e.m with
  | some ch, some p, some m => some (ch, p, m)
  | _, _, _ => none

/-- Whether an entry is placed on the due list of the cycle with the given number: enabled, due, its
channel available, and its channel's cell not DOWN (R69). -/
def State.entryDue (s : State) (cycle : BitVec 16) (i : Fin 16) : Bool :=
  let e := s.scan.active[i]
  match e.parameters with
  | none => false
  | some (ch, _, _) =>
    e.enabled && decide (cycle.toNat % e.every.toNat = e.phase.toNat) && s.available ch &&
      decide ((s.cell (cellOf ch)).state ≠ .down)

/-- The due list of a cycle, in increasing order of index (R69). -/
def State.dueList (s : State) (cycle : BitVec 16) : List (Fin 16) :=
  (List.finRange 16).filter (s.entryDue cycle)

/-- A cycle starts: steps 2 to 6 of R68, shared with SCAN_ONCE (R65). -/
def State.startCycle (s : State) : State :=
  let n := s.scan.cycle + 1
  let s := s.setScan { s.scan with cycle := n, due := s.dueList n, state := .cycle }
  let s := s.offerBoth
  if s.scan.due = [] then s.completionCheck else s

/-- A cycle-start event taken in CYCLE (R70). -/
def State.countOverrun (s : State) : State :=
  (s.setScan { s.scan with
    overrun := if s.scan.overrun = 255 then 255 else s.scan.overrun + 1 }).raise .scanOverrun

/-- A cycle-start event is taken: it starts a cycle in WAITING, a pending commit first (R68), counts
an overrun in CYCLE (R70), and is ignored in STOPPING and STOPPED (R71). -/
def State.cycleStartEvent (s : State) : State :=
  match s.scan.state with
  | .waiting => s.applyPending.startCycle
  | .cycle => s.countOverrun
  | .stopping | .stopped => s

/-- The due entries of a cell are removed from the due list (R76). -/
def State.removeDue (s : State) (c : CellId) : State :=
  s.setScan { s.scan with
    due := s.scan.due.filter fun i =>
      match (s.scan.active[i]).parameters with
      | some (ch, _, _) => decide (cellOf ch ≠ c)
      | none => true }

end Sys2Proof.Machine
end

