-- ==== Sys2Proof/Machine/JobOps.lean ====
section
/-!
DEFINITION. The dispatcher's shared operations (chapter 6) and the ratio unit (R132 to R134): the
records a job appends, orders, outcomes, completions and aborts, and the dispatch attempt.
-/
namespace Sys2Proof.Machine

/-! ### Records (R110) -/

/-- The source kind of a record that ends a job (R138). -/
def Origin.kind : Origin → SourceKind
  | .scan _ _ => .scan
  | .request _ => .request

/-- The source id: the entry index or the tag (R138). -/
def Origin.sourceId : Origin → Byte
  | .scan i _ => BitVec.ofNat 8 i.val
  | .request tag => tag

/-- The cycle number, for SCAN origin (R138). -/
def Origin.cycle : Origin → Option (BitVec 16)
  | .scan _ n => some n
  | .request _ => none

/-- The quotient of a pair of readings, before saturation (R133). -/
def ratioQuotient (method : Method) (sensor reference : Nat) : Nat :=
  match method with
  | .period | .slope => sensor * 65536 / reference
  | .count => reference * 65536 / sensor

/-- What the ratio unit adds to the record of an OK main outcome (R132 to R134). -/
def ratioOf (method : Method) (sensor reference : Nat) : Ratio :=
  let q := ratioQuotient method sensor reference
  { reference := reference, ratio := min q Config.maxValue,
    saturated := decide (Config.maxValue < q) }

/-- The status of a record that reports an outcome (R137). -/
def Outcome.status : Outcome → RecordStatus
  | .ok _ _ => .ok
  | .overrange _ => .overrange
  | .underrange _ => .underrange
  | .stall _ _ => .stall

/-- The samples of an outcome (R23). -/
def Outcome.samples : Outcome → Nat
  | .ok n _ => n
  | .overrange n => n
  | .underrange n => n
  | .stall n _ => n

/-- The raw value, present when the status is OK (R23). -/
def Outcome.raw : Outcome → Option Nat
  | .ok _ raw => some raw
  | _ => none

/-- The stall level, present when the status is STALL (R23). -/
def Outcome.stallLevel : Outcome → Option Level
  | .stall _ level => some level
  | _ => none

/-- The record of a job's main outcome, with what the ratio unit adds (R110, R132). -/
def Job.mainRecord (j : Job) (o : Outcome) (now : BitVec 32) : Record :=
  { status := o.status, kind := j.origin.kind, sourceId := j.origin.sourceId,
    cycle := j.origin.cycle, channel := j.channel, profile := j.profile, samples := o.samples,
    raw := o.raw
    ratio :=
      match j.ratio, o.raw, j.pairing with
      | true, some sensor, some reference => some (ratioOf j.copy.method sensor reference)
      | _, _, _ => none
    refreshed := j.refreshed, transition := none, stallLevel := o.stallLevel, sequence := 0,
    timestamp := now }

/-- The record of a job that ends without a main outcome: UNAVAILABLE, REF_FAILED, CANCELLED or
ABORTED, with samples 0 (R110). -/
def Job.endRecord (j : Job) (status : RecordStatus) (now : BitVec 32) : Record :=
  { status := status, kind := j.origin.kind, sourceId := j.origin.sourceId,
    cycle := j.origin.cycle, channel := j.channel, profile := j.profile, samples := 0, raw := none,
    ratio := none, refreshed := j.refreshed, transition := none, stallLevel := none, sequence := 0,
    timestamp := now }

/-- A reference-report record (R110). -/
def Job.reportRecord (j : Job) (c : CellId) (o : Outcome) (now : BitVec 32) : Record :=
  { status := o.status, kind := .reference, sourceId := j.origin.sourceId,
    cycle := j.origin.cycle, channel := referenceChannel c, profile := j.profile,
    samples := o.samples, raw := o.raw, ratio := none, refreshed := false, transition := none,
    stallLevel := o.stallLevel, sequence := 0, timestamp := now }

/-! ### Orders -/

/-- The order made from a profile copy (R7, R36). -/
def orderOf (ch : Fin 10) (copy : Profile) (m : Averaging) : Order :=
  { channel := ch, method := copy.method, settle := copy.settle, cycles := copy.cycles,
    gate := copy.gate, precharge := copy.precharge, stallLimit := copy.stallLimit, m := m }

/-- The dispatcher gives a cell an order (R7). -/
def State.giveOrder (s : State) (c : CellId) (o : Order) : State :=
  s.setCell c ((s.cell c).take o)

/-! ### The end of a job -/

/-- The record that ends a job is shown to the window monitor when the job is of SCAN origin,
appended into the job's slot, the end of a scan job is handed on, and the context is released
(R73, R94, R104, R111, R113, R156). -/
def State.finishJob (s : State) (c : CellId) (j : Job) (r : Record) : State :=
  match j.origin with
  | .scan i _ =>
    let (r, s) := s.monitor i r
    ((s.append r).endScanJob).setJob c none
  | .request _ => (s.append r).setJob c none

/-- A reference-report record, for a job that holds two slots (R107, R109). -/
def State.reportReference (s : State) (c : CellId) (j : Job) (o : Outcome) : State :=
  if j.slots = 2 then s.append (j.reportRecord c o s.timebase.counter) else s

/-- An OK reference outcome of a held job: cache, pairing value, phase MAIN and the report (R107). The
health update has been taken. -/
def State.referencePassed (s : State) (c : CellId) (j : Job) (o : Outcome) (raw : Nat) : State :=
  let s := s.offerReference c j o 1
  let s := s.reportReference c j o
  s.setJob c (some { j with
    pairing := some raw, refreshed := true, phase := .main, slots := 1 })

/-- Any other reference outcome of a held job: the job completes REF_FAILED (R109). -/
def State.referenceFailed (s : State) (c : CellId) (j : Job) (o : Outcome) : State :=
  let s := s.offerReference c j o 1
  let s := s.reportReference c j o
  s.finishJob c j (j.endRecord .refFailed s.timebase.counter)

/-- A main outcome completes its job (R111). The health update has been taken. -/
def State.mainCompleted (s : State) (c : CellId) (j : Job) (o : Outcome) : State :=
  let s := if isReference j.channel then s.offerReference c j o 0 else s
  s.finishJob c j (j.mainRecord o s.timebase.counter)

/-- A cell delivers the outcome of an order on a channel (R23): the cell enters RESTING, the health
update is taken (R40), and the job context passes the outcome on. -/
def State.deliver (s : State) (c : CellId) (ch : Fin 10) (o : Outcome) : State :=
  let s := s.setCell c (s.cell c).rest
  match s.job c with
  | none => s.updateHealth ch false o
  | some j =>
    match j.phase with
    | .reference =>
      let s := s.updateHealth ch false o
      match o with
      | .ok _ raw => s.referencePassed c j o raw
      | _ => s.referenceFailed c j o
    | .main => (s.updateHealth ch j.force o).mainCompleted c j o

/-- A cell has moved by an event of its own: with an outcome it is delivered. -/
def State.settleCell (s : State) (c : CellId) (r : Cell × Option Outcome) : State :=
  let s := s.setCell c r.1
  match r.2, r.1.order with
  | some o, some order => s.deliver c order.channel o
  | _, _ => s

/-- An abort ends the job in the cell's context with one record: an unused report reservation is
released first (R112, R113, R143). -/
def State.abortJob (s : State) (c : CellId) (j : Job) (status : RecordStatus) : State :=
  let s := if j.slots = 2 then s.release else s
  s.finishJob c j (j.endRecord status s.timebase.counter)

/-! ### The dispatch attempt (R99 to R106) -/

/-- What a candidate asks for. -/
structure Work where
  origin : Origin
  channel : Fin 10
  profile : Fin 4
  m : Averaging
  ratio : Bool
  force : Bool
  deriving DecidableEq, Repr

/-- The work of a request record. -/
def Request.work (r : Request) : Work :=
  { origin := .request r.tag, channel := r.channel, profile := r.profile, m := r.m,
    ratio := r.ratio, force := r.force }

/-- The work of a due entry in the current cycle, when it belongs to the cell (R72). -/
def State.dueWork (s : State) (c : CellId) (i : Fin 16) : Option Work :=
  let e := s.scan.active[i]
  match e.parameters with
  | some (ch, p, m) =>
    if cellOf ch = c then
      some { origin := .scan i s.scan.cycle, channel := ch, profile := p, m := m,
             ratio := e.ratio, force := false }
    else none
  | none => none

/-- The candidate of a cell: its oldest request, else its due entry of lowest index (R100). -/
def State.candidate (s : State) (c : CellId) : Option Work :=
  match s.requests.queue.find? (fun r => decide (cellOf r.channel = c)) with
  | some r => some r.work
  | none => s.scan.due.findSome? (s.dueWork c)

/-- What an attempt judges that the candidate's job will do (R101). -/
inductive Judgement where
  | unavailable
  | refFailed
  | converts
  | paired
  | held (report : Bool)
  deriving DecidableEq, Repr

/-- The judgement of R101, step by step. -/
def State.judge (s : State) (c : CellId) (w : Work) : Judgement :=
  let r := s.channel w.channel
  if r.enabled = false then .unavailable
  else if r.health = .faulted ∧ w.force = false then .unavailable
  else if isReference w.channel = true ∨ w.ratio = false then .converts
  else if s.available (referenceChannel c) = false then .refFailed
  else if s.fresh c w.profile then .paired
  else .held (s.profile w.profile).reportReferences

/-- The slot need of a judgement (R101). -/
def Judgement.slots : Judgement → Nat
  | .held true => 2
  | _ => 1

/-- The job a candidate becomes (R97, R104, R105, R106). -/
def State.jobOf (s : State) (c : CellId) (w : Work) (v : Judgement) : Job :=
  { origin := w.origin, channel := w.channel, profile := w.profile, copy := s.profile w.profile,
    superseded := false, m := w.m, ratio := w.ratio && !(isReference w.channel), force := w.force
    phase := match v with | .held _ => .reference | _ => .main
    slots := v.slots
    pairing := match v with | .paired => some (s.reference c w.profile).raw | _ => none
    refreshed := false }

/-- The candidate leaves its queue or list (R86, R72); a due entry is counted in flight. -/
def State.withdraw (s : State) (c : CellId) (w : Work) : State :=
  match w.origin with
  | .request _ =>
    { s with requests := { s.requests with
        queue := s.requests.queue.eraseP (fun r => decide (cellOf r.channel = c)) } }
  | .scan i _ =>
    s.setScan { s.scan with due := s.scan.due.erase i, jobsInFlight := s.scan.jobsInFlight + 1 }

/-- A completion at dispatch, without a conversion; the cell attempts again at once (R104). -/
def State.completeAtDispatch (s : State) (c : CellId) (j : Job) (status : RecordStatus) : State :=
  (s.finishJob c j (j.endRecord status s.timebase.counter)).offer c

/-- A pairing spends one use of the record (R121). -/
def State.spendUse (s : State) (c : CellId) (p : Fin 4) : State :=
  let r := s.reference c p
  s.setReference c p { r with uses := r.uses + 1 }

/-- The candidate is dispatched with its slots claimed (R104 to R106). -/
def State.dispatchWork (s : State) (c : CellId) (w : Work) (v : Judgement) : State :=
  let j := s.jobOf c w v
  let s := (((s.reserve v.slots).withdraw c w)).setJob c (some j)
  match v with
  | .unavailable => s.completeAtDispatch c j .unavailable
  | .refFailed => s.completeAtDispatch c j .refFailed
  | .converts => s.giveOrder c (orderOf j.channel j.copy j.m)
  | .paired => (s.spendUse c w.profile).giveOrder c (orderOf j.channel j.copy j.m)
  | .held _ => s.giveOrder c (orderOf (referenceChannel c) j.copy .m1)

/-- A dispatch attempt answers an outstanding opportunity of an IDLE and free cell (R99): the
candidate (R100) is judged (R101), its slots are claimed (R102), and it is dispatched when the claim
is granted; a refused claim leaves it in its place. -/
def State.attempt (s : State) (c : CellId) : State :=
  if s.opportunity c = true then
    let free := s.idleFree c
    let s := s.setOpportunity c false
    if free then
      match s.candidate c with
      | none => s
      | some w =>
        let v := s.judge c w
        if v.slots ≤ s.freeSlots then s.dispatchWork c w v else s
    else s
  else s

/-! ### The rest between orders (R108) -/

/-- The recheck of a job between its orders at the rest expiry: the main order is given, or the job
completes UNAVAILABLE and the cell attempts at once (R108). -/
def State.recheck (s : State) (c : CellId) (j : Job) : State :=
  let r := s.channel j.channel
  if r.enabled = true ∧ (r.health ≠ .faulted ∨ j.force = true) then
    s.giveOrder c (orderOf j.channel j.copy j.m)
  else s.completeAtDispatch c j .unavailable

end Sys2Proof.Machine
end

