-- ==== Sys2Proof/Machine/Arrivals.lean ====
section
/-!
DEFINITION. The arrivals the part produces by itself (Config's `Arrival`): when each is due, what
taking it does, and the timebase tick that makes them due. An arrival that is not due is not taken
and changes nothing (log 2).
-/
namespace Sys2Proof.Machine

/-! ### Cell expiries -/

/-- The gate expiry of a cell (R11). -/
def State.gateExpiry (s : State) (c : CellId) : State :=
  if (s.cell c).gateDue then s.settleCell c (s.cell c).expireGate else s

/-- The precharge expiry of a cell (R15). -/
def State.prechargeExpiry (s : State) (c : CellId) : State :=
  if (s.cell c).prechargeDue then s.settleCell c (s.cell c).releaseCapacitor else s

/-- The tick-count overflow of a cell's PERIOD sample (R14). -/
def State.periodOverflow (s : State) (c : CellId) : State :=
  if (s.cell c).overflowDue then
    s.settleCell c (s.cell c, some (.overrange (s.cell c).samplesDone))
  else s

/-- The stall expiry of a cell (R21). -/
def State.stallExpiry (s : State) (c : CellId) : State :=
  if (s.cell c).stallDue then s.settleCell c (s.cell c, some (s.cell c).stallOutcome) else s

/-- The rest expiry of a cell: IDLE; free, it is a dispatch opportunity (R99); still owned, the job
is rechecked in the same act (R5, R108). -/
def State.restExpiry (s : State) (c : CellId) : State :=
  if (s.cell c).restDue then
    let s := s.setCell c (s.cell c).endRest
    match s.job c with
    | none => s.offer c
    | some j => s.recheck c j
  else s

/-! ### Timebase arrivals -/

/-- The interval phase has reached the divider (R169; log 7). No interval tick occurs while RESET# is
held low (R169). -/
def State.intervalDue (s : State) : Bool :=
  !s.resetHeld && decide (s.timebase.divider.toNat ≤ s.timebase.intervalPhase)

/-- The interval tick: the phase returns to 0, the counter advances with wrap (R169, R170), and a
running scan timer takes one from its remaining count (R174). -/
def State.intervalTick (s : State) : State :=
  if s.intervalDue then
    { s with
      timebase := { s.timebase with intervalPhase := 0, counter := s.timebase.counter + 1 }
      timer := { s.timer with
        remaining := if s.timer.running then s.timer.remaining - 1 else s.timer.remaining } }
  else s

/-- A running scan timer has reached 0 (R174; log 7). -/
def State.timerDue (s : State) : Bool :=
  s.timer.running && decide (s.timer.remaining = 0)

/-- The reload of the scan timer at an expiry: the pending period, if present, becomes the current
one (R174). -/
def ScanTimer.reload (t : ScanTimer) : ScanTimer :=
  let p := t.pendingPeriod.getD t.period
  { t with remaining := p.toNat, period := p, pendingPeriod := none }

/-- The scan timer expires: it reloads and delivers a cycle-start event (R174). -/
def State.scanTimerExpiry (s : State) : State :=
  if s.timerDue then ({ s with timer := s.timer.reload }).cycleStartEvent else s

/-- A change of the TRIG filtered level is confirmed (R176; log 7). -/
def State.edgeDue (s : State) : Bool := decide (2 ≤ s.trig.confirming)

/-- The edge that a change of the filtered level from the given one is (R176). -/
def edgeFrom : Level → Edge
  | .low => .rising
  | .high => .falling

/-- The edge is taken: the filtered level changes, and a cycle-start event is delivered when the
source is PIN, the edge is the selected one and the scan is not STOPPED (R176). -/
def State.trigEdge (s : State) : State :=
  if s.edgeDue then
    let e := edgeFrom s.trig.filtered
    let s := { s with trig := { s.trig with
      filtered := s.trig.filtered.flip, confirming := 0 } }
    if s.scan.source = .pin ∧ e = s.scan.edge ∧ s.scan.state ≠ .stopped then s.cycleStartEvent
    else s
  else s

/-! ### Taking what is due -/

/-- Whether an arrival is due. -/
def State.due (s : State) : Arrival → Bool
  | .intervalTick => s.intervalDue
  | .scanTimerExpiry => s.timerDue
  | .trigEdge => s.edgeDue
  | .gateExpiry c => (s.cell c).gateDue
  | .prechargeExpiry c => (s.cell c).prechargeDue
  | .periodOverflow c => (s.cell c).overflowDue
  | .stallExpiry c => (s.cell c).stallDue
  | .restExpiry c => (s.cell c).restDue
  | .dispatchAttempt c => s.opportunity c

/-- Takes one arrival; one that is not due changes nothing. -/
def State.takeArrival (s : State) : Arrival → State
  | .intervalTick => s.intervalTick
  | .scanTimerExpiry => s.scanTimerExpiry
  | .trigEdge => s.trigEdge
  | .gateExpiry c => s.gateExpiry c
  | .prechargeExpiry c => s.prechargeExpiry c
  | .periodOverflow c => s.periodOverflow c
  | .stallExpiry c => s.stallExpiry c
  | .restExpiry c => s.restExpiry c
  | .dispatchAttempt c => s.attempt c

/-- Takes arrivals one after another. -/
def State.takeArrivals (s : State) (l : List Arrival) : State :=
  l.foldl State.takeArrival s

/-- Every arrival but the dispatch attempts: the sweep that leaves none of them due. -/
def expiries : List Arrival :=
  [.intervalTick, .scanTimerExpiry, .trigEdge,
   .gateExpiry .a, .prechargeExpiry .a, .periodOverflow .a, .stallExpiry .a, .restExpiry .a,
   .gateExpiry .b, .prechargeExpiry .b, .periodOverflow .b, .stallExpiry .b, .restExpiry .b]

/-- Whether anything is due. -/
def State.anyDue (s : State) : Bool :=
  (expiries ++ [Arrival.dispatchAttempt .a, Arrival.dispatchAttempt .b]).any s.due

/-- How many attempts of a cell can follow one another: one for each candidate, and the last. -/
def State.attemptBound (s : State) : Nat := s.requests.queue.length + s.scan.due.length + 1

/-- All that is still due is taken before the next CLKIN period or tick is counted: first in a free
order, then by the sweep, which leaves nothing due (DESIGN CHOICE, log 3). -/
def State.takeDue (s : State) : State :=
  if s.anyDue then
    let order := Config.arrivalOrder s.freeIndex
    let s := { s with freeIndex := s.freeIndex + 1 }
    let s := s.takeArrivals order
    let s := s.takeArrivals expiries
    let s := s.takeArrivals (List.replicate s.attemptBound (.dispatchAttempt .a))
    s.takeArrivals (List.replicate s.attemptBound (.dispatchAttempt .b))
  else s

/-! ### Ticks -/

/-- The TRIG detector samples the pin (R176). The first sample after a device reset sets the filtered
level. -/
def Trig.sample (level : Level) (t : Trig) : Trig :=
  if t.firstSample then
    { filtered := level, confirming := 0, firstSample := false, pin := level }
  else
    { t with
      confirming := if level = t.filtered then 0 else min 2 (t.confirming + 1)
      pin := level }

/-- What one timebase tick counts: both cells' timers, the interval phase and the TRIG detector
(R169). DESIGN CHOICE (log 25): the first timebase tick after a reset or TIMEBASE_SET is the first of
the divider ticks of the first interval. -/
def State.countTick (s : State) (trig : Level) : State :=
  { s with
    cells := ⟨s.cells.a.tick, s.cells.b.tick⟩
    timebase := { s.timebase with
      prescalerPhase := 0, intervalPhase := s.timebase.intervalPhase + 1 }
    trig := s.trig.sample trig }

/-- A timebase tick (R169): what earlier arrivals left due is taken first (log 3), then the tick is
counted. No tick occurs while RESET# is held low. -/
def State.timebaseTick (s : State) (trig : Level) : State :=
  if s.resetHeld then s else s.takeDue.countTick trig

/-- One CLKIN period: the prescaler phase advances, and when it completes prescale periods a timebase
tick occurs (R169). What an earlier tick left due is of that tick, and is taken before any further
period is counted (R169; log 3). No period is counted while RESET# is held low. -/
def State.clkin (s : State) : State :=
  if s.resetHeld then s
  else if s.timebase.prescale.toNat ≤ s.timebase.prescalerPhase + 1 then s.timebaseTick s.trig.pin
  else
    let s := s.takeDue
    { s with timebase := { s.timebase with prescalerPhase := s.timebase.prescalerPhase + 1 } }

end Sys2Proof.Machine
end

