-- ==== Sys2Proof/Machine/ArrivalEvents.lean ====
section
/-!
DEFINITION. The rows of the timebase, of the cells and of the dispatcher: ticks and edges (R169,
R174, R176), crossings (R1, R9), expiries (chapter 1), dispatch attempts (R99) and COMMIT_APPLY (R60).
-/
namespace Sys2Proof.Machine

/-- An upper crossing of a cell (R1). -/
def State.upperCrossing (s : State) (c : CellId) : State := s.setCell c (s.cell c).upperCrossing

/-- A lower crossing of a cell (R1, R9), with the divider in force (R10). -/
def State.lowerCrossing (s : State) (c : CellId) : State :=
  s.settleCell c ((s.cell c).lowerCrossing s.timebase.divider.toNat)

/-- A commit that stands to be applied in STOPPED is applied (R60). The other places of R60 apply it
within their own act, so no run brings a commit here (log 15). -/
def State.commitApply (s : State) : State :=
  if s.scan.commitPending = true ∧ s.scan.state = .stopped then s.applyCommit else s

/-- The row TIMEBASE_TICK. -/
def execTimebaseTick (trig : Level) (s : State) : Host.Outcome State Fault Refusal :=
  .next (s.timebaseTick trig)

/-- The row INTERVAL_TICK. -/
def execIntervalTick (s : State) : Host.Outcome State Fault Refusal := .next s.intervalTick

/-- The row SCAN_TIMER_EXPIRY. -/
def execScanTimerExpiry (s : State) : Host.Outcome State Fault Refusal := .next s.scanTimerExpiry

/-- The row TRIG_EDGE. -/
def execTrigEdge (s : State) : Host.Outcome State Fault Refusal := .next s.trigEdge

/-- The row UPPER_CROSSING. -/
def execUpperCrossing (c : CellId) (s : State) : Host.Outcome State Fault Refusal :=
  .next (s.upperCrossing c)

/-- The row LOWER_CROSSING. -/
def execLowerCrossing (c : CellId) (s : State) : Host.Outcome State Fault Refusal :=
  .next (s.lowerCrossing c)

/-- The row REST_EXPIRY. -/
def execRestExpiry (c : CellId) (s : State) : Host.Outcome State Fault Refusal :=
  .next (s.restExpiry c)

/-- The row GATE_EXPIRY. -/
def execGateExpiry (c : CellId) (s : State) : Host.Outcome State Fault Refusal :=
  .next (s.gateExpiry c)

/-- The row PRECHARGE_EXPIRY. -/
def execPrechargeExpiry (c : CellId) (s : State) : Host.Outcome State Fault Refusal :=
  .next (s.prechargeExpiry c)

/-- The row STALL_EXPIRY. -/
def execStallExpiry (c : CellId) (s : State) : Host.Outcome State Fault Refusal :=
  .next (s.stallExpiry c)

/-- The row PERIOD_OVERFLOW. -/
def execPeriodOverflow (c : CellId) (s : State) : Host.Outcome State Fault Refusal :=
  .next (s.periodOverflow c)

/-- The row DISPATCH_ATTEMPT. -/
def execDispatchAttempt (c : CellId) (s : State) : Host.Outcome State Fault Refusal :=
  .next (s.attempt c)

/-- The row COMMIT_APPLY. -/
def execCommitApply (s : State) : Host.Outcome State Fault Refusal := .next s.commitApply

end Sys2Proof.Machine
end

