-- ==== Sys2Proof/Machine/CellCommands.lean ====
section
/-!
DEFINITION. CELL_ENABLE and CELL_DISABLE (R4, R6).
-/
namespace Sys2Proof.Machine

/-- CELL_ENABLE (R4). -/
def cellEnable (s : State) : Reply :=
  match cellOfByte (s.arg 0) with
  | none => .refuse .badParameter 0 0 0 0 s
  | some c => .done 0 0 0 0 (s.setCell c (s.cell c).enable)

/-- The effect of CELL_DISABLE on a cell: DOWN (R6), its due entries removed (R76), its job ended
ABORTED (R113), its four reference records invalid (R129), and the completion check after both
(R76). -/
def State.disableCell (s : State) (c : CellId) : State :=
  let s := (s.setCell c (s.cell c).disable).setOpportunity c false
  let s := s.removeDue c
  let s := match s.job c with
    | none => s
    | some j => s.abortJob c j .aborted
  (s.invalidateCell c).completionCheck

/-- CELL_DISABLE (R6). -/
def cellDisable (s : State) : Reply :=
  match cellOfByte (s.arg 0) with
  | none => .refuse .badParameter 0 0 0 0 s
  | some c => .done 0 0 0 0 (s.disableCell c)

/-- The command CELL_ENABLE, code 0x10. -/
def execCellEnable (s : State) : Host.Outcome State Fault Refusal :=
  .next (s.takeCommand 0x10 cellEnable)

/-- The command CELL_DISABLE, code 0x11. -/
def execCellDisable (s : State) : Host.Outcome State Fault Refusal :=
  .next (s.takeCommand 0x11 cellDisable)

end Sys2Proof.Machine
end

