-- ==== Sys2Proof/Machine/ChannelCommands.lean ====
section
/-!
DEFINITION. CHANNEL_SET, CHANNEL_CLEAR_FAULT and FAULT_THRESHOLD (R45 to R47), with what they hand
on (R44).
-/
namespace Sys2Proof.Machine

/-- The effect of CHANNEL_SET: the enabled field takes the value; a reference channel going from
enabled to disabled invalidates its cell's records, and a channel that becomes available hands on an
opportunity (R44, R45). -/
def State.setEnabled (s : State) (ch : Fin 10) (enable : Bool) : State :=
  let r := s.channel ch
  let s := s.setChannel ch { r with enabled := enable }
  if r.enabled = true ∧ enable = false ∧ isReference ch = true then s.invalidateCell (cellOf ch)
  else if r.enabled = false ∧ enable = true ∧ r.health ≠ .faulted then s.offer (cellOf ch)
  else s

/-- CHANNEL_SET (R45). -/
def channelSet (s : State) : Reply :=
  match channelOfByte (s.arg 0), flagOfByte (s.arg 1) with
  | some ch, some enable =>
    .done (s.arg 0) (flagByte (s.channel ch).enabled) (flagByte enable) (s.channel ch).health.code
      (s.setEnabled ch enable)
  | _, _ => .refuse .badParameter 0 0 0 0 s

/-- The effect of CHANNEL_CLEAR_FAULT; an enabled channel taken out of FAULTED hands on an
opportunity (R44, R46). -/
def State.clearFault (s : State) (ch : Fin 10) : State :=
  let r := s.channel ch
  let s := s.setChannel ch { r with health := .good, stalls := 0, lastLevel := none }
  if r.health = .faulted ∧ r.enabled = true then s.offer (cellOf ch) else s

/-- CHANNEL_CLEAR_FAULT (R46). -/
def channelClearFault (s : State) : Reply :=
  match channelOfByte (s.arg 0) with
  | some ch =>
    .done (s.arg 0) (s.channel ch).health.code (BitVec.ofNat 8 (s.channel ch).stalls) 0
      (s.clearFault ch)
  | none => .refuse .badParameter 0 0 0 0 s

/-- FAULT_THRESHOLD (R47): no channel is evaluated against the new threshold. -/
def faultThreshold (s : State) : Reply :=
  if s.arg 0 = 0 ∨ 7 < (s.arg 0).toNat then .refuse .badParameter 0 0 0 0 s
  else
    .done (s.arg 0) (BitVec.ofNat 8 s.channels.threshold) 0 0
      { s with channels := { s.channels with threshold := (s.arg 0).toNat } }

/-- The command CHANNEL_SET, code 0x18. -/
def execChannelSet (s : State) : Host.Outcome State Fault Refusal :=
  .next (s.takeCommand 0x18 channelSet)

/-- The command CHANNEL_CLEAR_FAULT, code 0x19. -/
def execChannelClearFault (s : State) : Host.Outcome State Fault Refusal :=
  .next (s.takeCommand 0x19 channelClearFault)

/-- The command FAULT_THRESHOLD, code 0x1A. -/
def execFaultThreshold (s : State) : Host.Outcome State Fault Refusal :=
  .next (s.takeCommand 0x1A faultThreshold)

end Sys2Proof.Machine
end

