-- ==== Sys2Proof/Machine/RequestCommands.lean ====
section
/-!
DEFINITION. REFERENCE_INVALIDATE (R130), REQUEST_SUBMIT (R82 to R84), REQUEST_CANCEL (R89) and
REQUEST_FLUSH (R93).
-/
namespace Sys2Proof.Machine

/-- REFERENCE_INVALIDATE (R130). -/
def referenceInvalidate (s : State) : Reply :=
  let a := s.validCount .a
  let b := s.validCount .b
  .done (BitVec.ofNat 8 (a + b)) (BitVec.ofNat 8 a) (BitVec.ofNat 8 b) 0 s.invalidateAll

/-- A request is appended at the tail, and its cell is given an opportunity (R84). -/
def State.submit (s : State) (r : Request) : State :=
  ({ s with requests := { s.requests with queue := s.requests.queue ++ [r] } }).offer
    (cellOf r.channel)

/-- The queued requests of a cell. -/
def State.queuedFor (s : State) (c : CellId) : Nat :=
  s.requests.queue.countP fun r => decide (cellOf r.channel = c)

/-- REQUEST_SUBMIT: the image fields (R82), the channel (R83), the queue (R84), in this order. -/
def requestSubmit (s : State) : Reply :=
  let img := s.requests.image
  match channelOfByte img[1], profileOfByte img[2], averagingOfByte img[3] with
  | none, _, _ => .refuse .badParameter 1 0 0 0 s
  | some _, none, _ => .refuse .badParameter 2 0 0 0 s
  | some _, some _, none => .refuse .badParameter 3 0 0 0 s
  | some ch, some p, some m =>
    let k := s.channel ch
    let force := requestForce img
    if k.enabled = false ∨ (k.health = .faulted ∧ force = false) then
      .refuse .unavailable img[1] (flagByte k.enabled) k.health.code 0 s
    else if Config.requestPlaces ≤ s.requests.queue.length then .refuse .queueFull 8 0 0 0 s
    else
      .done (BitVec.ofNat 8 (s.requests.queue.length + 1)) img[0]
        (BitVec.ofNat 8 (s.queuedFor (cellOf ch) + 1)) 0
        (s.submit { tag := img[0], channel := ch, profile := p, m := m,
                    ratio := requestRatio img, force := force })

/-- The job of a cell is a request job with the tag (R89). -/
def State.holdsTag (s : State) (tag : Byte) (c : CellId) : Bool :=
  match s.job c with
  | some j => decide (j.origin = .request tag)
  | none => false

/-- The request job of a cell with the tag is aborted (R24, R90, R112). -/
def State.cancelJob (s : State) (tag : Byte) (c : CellId) : State :=
  match s.job c with
  | some j =>
    if j.origin = .request tag then (s.setCell c (s.cell c).abort).abortJob c j .cancelled else s
  | none => s

/-- The jobs of both cells with the tag are aborted; with two, the one whose record comes first is a
free value (DESIGN CHOICE, log 17). -/
def State.cancelJobs (s : State) (tag : Byte) : State :=
  if s.holdsTag tag .a = true ∧ s.holdsTag tag .b = true then
    let first := Config.cancelFirst s.freeIndex
    let s := { s with freeIndex := s.freeIndex + 1 }
    (s.cancelJob tag first).cancelJob tag first.other
  else (s.cancelJob tag .a).cancelJob tag .b

/-- REQUEST_CANCEL (R89): queued records with the tag are removed, jobs with it are aborted. -/
def requestCancel (s : State) : Reply :=
  let tag := s.arg 0
  let kept := s.requests.queue.filter fun r => decide (r.tag ≠ tag)
  let aborted := [CellId.a, CellId.b].countP (s.holdsTag tag)
  .done (BitVec.ofNat 8 (s.requests.queue.length - kept.length)) (BitVec.ofNat 8 aborted)
    (BitVec.ofNat 8 kept.length) 0
    (({ s with requests := { s.requests with queue := kept } }).cancelJobs tag)

/-- REQUEST_FLUSH (R93). -/
def requestFlush (s : State) : Reply :=
  .done (BitVec.ofNat 8 s.requests.queue.length) 0 0 0
    { s with requests := { s.requests with queue := [] } }

/-- The command REFERENCE_INVALIDATE, code 0x3A. -/
def execReferenceInvalidate (s : State) : Host.Outcome State Fault Refusal :=
  .next (s.takeCommand 0x3A referenceInvalidate)

/-- The command REQUEST_SUBMIT, code 0x40. -/
def execRequestSubmit (s : State) : Host.Outcome State Fault Refusal :=
  .next (s.takeCommand 0x40 requestSubmit)

/-- The command REQUEST_CANCEL, code 0x41. -/
def execRequestCancel (s : State) : Host.Outcome State Fault Refusal :=
  .next (s.takeCommand 0x41 requestCancel)

/-- The command REQUEST_FLUSH, code 0x42. -/
def execRequestFlush (s : State) : Host.Outcome State Fault Refusal :=
  .next (s.takeCommand 0x42 requestFlush)

end Sys2Proof.Machine
end

