-- ==== Sys2Proof/Machine/ResultCommands.lean ====
section
/-!
DEFINITION. RESULT_POP (R148), RESULT_FLUSH (R149), RESULT_WATERMARK (R150), WINDOW_ACK (R164),
EVENT_ACK (R184), SOFT_RESET (R198) and the refusal of an unknown code (R195).
-/
namespace Sys2Proof.Machine

/-- RESULT_POP (R148): the head leaves, the current mark is noted and cleared (R147), and both cells
are given an opportunity. -/
def resultPop (s : State) : Reply :=
  match s.results.records with
  | [] => .refuse .empty 0 0 0 0 s
  | head :: tail =>
    .done (byteOf head.sequence.toNat 0) (byteOf head.sequence.toNat 1)
      (flagByte s.results.current) (BitVec.ofNat 8 tail.length)
      ({ s with results := { s.results with records := tail, current := false } }).offerBoth

/-- RESULT_FLUSH (R149): an opportunity for both cells when a record was removed. -/
def resultFlush (s : State) : Reply :=
  let s' := { s with results := { s.results with records := [], current := false } }
  .done (BitVec.ofNat 8 s.results.records.length) (BitVec.ofNat 8 s.results.reserved) 0 0
    (if s.results.records = [] then s' else s'.offerBoth)

/-- RESULT_WATERMARK (R150). -/
def resultWatermark (s : State) : Reply :=
  if s.arg 0 = 0 ∨ 32 < (s.arg 0).toNat then .refuse .badParameter 0 0 0 0 s
  else
    .done (s.arg 0) (BitVec.ofNat 8 s.results.watermark)
      (BitVec.ofNat 8 s.results.records.length) 0
      { s with results := { s.results with watermark := (s.arg 0).toNat } }

/-- WINDOW_ACK (R164). -/
def windowAck (s : State) : Reply :=
  let before := s.windows.changeSet
  let after := before &&& ~~~ s.arg01
  .done (byteOf before.toNat 0) (byteOf before.toNat 1) (byteOf after.toNat 0)
    (byteOf after.toNat 1) { s with windows := { s.windows with changeSet := after } }

/-- EVENT_ACK (R184): the named latched flags are cleared, and the overrun count when SCAN_OVERRUN is
named. -/
def eventAck (s : State) : Reply :=
  let before := s.events.flags
  let after := before &&& ~~~ (s.arg 0).setWidth 6
  .done (before.setWidth 8) (after.setWidth 8) s.scan.overrun 0
    { s with
      events := { s.events with flags := after }
      scan := { s.scan with
        overrun := if (s.arg 0).getLsbD 1 then 0 else s.scan.overrun } }

/-- A channel record after a soft reset (R50). -/
def ChannelRecord.softReset (r : ChannelRecord) : ChannelRecord :=
  { r with health := .good, stalls := 0, lastLevel := none }

/-- The soft reset of every block in one act (R198): cells (R25), profiles (R27), channels (R50), scan
(R78), requests (R96), dispatcher (R114), references (R135), results (R153), windows (R168), timebase
(R177), events (R186). The serial port is left as it is. -/
def State.softReset (s : State) : State :=
  { s with
    cells := ⟨Cell.reset s.cells.a.level, Cell.reset s.cells.b.level⟩
    channels := { s.channels with
      records := Vector.ofFn fun i => (s.channels.records[i]).softReset }
    scan := { s.scan with
      state := .stopped, cycle := 0, overrun := 0, due := [], single := false, jobsInFlight := 0,
      commitPending := false }
    requests := { s.requests with queue := [] }
    dispatch := ⟨DispatchContext.free, DispatchContext.free⟩
    references := ⟨ReferenceRecord.allInvalid, ReferenceRecord.allInvalid⟩
    results := { s.results with
      records := [], reserved := 0, nextSequence := 0, current := false }
    windows := WindowMonitor.reset
    timebase := { s.timebase with counter := 0, prescalerPhase := 0, intervalPhase := 0 }
    timer := { s.timer with running := false, pendingPeriod := none }
    trig := { s.trig with confirming := 0 }
    events := { s.events with flags := 0 } }

/-- SOFT_RESET (R198). -/
def softReset (s : State) : Reply := .done 0 0 0 0 s.softReset

/-- A code that is not in the command summary (R195). -/
def badCode (code : Byte) (s : State) : Reply := .refuse .badCommand code 0 0 0 s

/-- The command RESULT_POP, code 0x48. -/
def execResultPop (s : State) : Host.Outcome State Fault Refusal :=
  .next (s.takeCommand 0x48 resultPop)

/-- The command RESULT_FLUSH, code 0x49. -/
def execResultFlush (s : State) : Host.Outcome State Fault Refusal :=
  .next (s.takeCommand 0x49 resultFlush)

/-- The command RESULT_WATERMARK, code 0x4A. -/
def execResultWatermark (s : State) : Host.Outcome State Fault Refusal :=
  .next (s.takeCommand 0x4A resultWatermark)

/-- The command WINDOW_ACK, code 0x50. -/
def execWindowAck (s : State) : Host.Outcome State Fault Refusal :=
  .next (s.takeCommand 0x50 windowAck)

/-- The command EVENT_ACK, code 0x51. -/
def execEventAck (s : State) : Host.Outcome State Fault Refusal :=
  .next (s.takeCommand 0x51 eventAck)

/-- The command SOFT_RESET, code 0x5A. -/
def execSoftReset (s : State) : Host.Outcome State Fault Refusal :=
  .next (s.takeCommand 0x5A softReset)

/-- A code outside the command summary (R195). A code of the summary is no BAD_COMMAND: such a term
is not well formed, and nothing arrives (log 16). -/
def execBadCommand (code : Byte) (s : State) : Host.Outcome State Fault Refusal :=
  .next (if Config.commandCodes.contains code then s else s.takeCommand code (badCode code))

end Sys2Proof.Machine
end

