-- ==== Sys2Proof/Machine/ScanCommands.lean ====
section
/-!
DEFINITION. TIMEBASE_SET (R172), SCAN_CONFIG (R67, R175), SCAN_START (R64), SCAN_ONCE (R65) and
SCAN_STOP (R66).
-/
namespace Sys2Proof.Machine

/-- A cell in a state other than DOWN or IDLE (R172). -/
def Cell.busy (k : Cell) : Bool := decide (k.state ≠ .down ∧ k.state ≠ .idle)

/-- What stands in the way of TIMEBASE_SET: 1 a cell, 2 the scan state, 3 both, 0 nothing (R172). -/
def State.timebaseObstacle (s : State) : Byte :=
  flagByte (s.cells.a.busy || s.cells.b.busy) +
    2 * flagByte (decide (s.scan.state ≠ .stopped))

/-- The effect of TIMEBASE_SET, as one act (R172). An interval tick or a confirmed edge that still
waits to be taken is gone with its phase or count (log 19). -/
def State.setTimebase (s : State) (prescale : Prescale) (divider : BitVec 16) : State :=
  ({ s with
      timebase := { s.timebase with
        prescale := prescale, divider := divider, prescalerPhase := 0, intervalPhase := 0 }
      trig := { s.trig with confirming := 0 } }).invalidateAll

/-- TIMEBASE_SET: values first, the prescale before the divider, then the state of the part
(R172). -/
def timebaseSet (s : State) : Reply :=
  match prescaleOfByte (s.arg 0) with
  | none => .refuse .badParameter 1 0 0 0 s
  | some prescale =>
    if s.arg12.toNat < 100 then .refuse .badParameter 2 0 0 0 s
    else if s.timebaseObstacle ≠ 0 then .refuse .busy s.timebaseObstacle 0 0 0 s
    else
      .done (s.arg 0) (s.arg 1) (s.arg 2) (BitVec.ofNat 8 (s.validCount .a + s.validCount .b))
        (s.setTimebase prescale s.arg12)

/-- The period handed to the scan timer: current at once in STOPPED, else pending (R175). -/
def State.handPeriod (s : State) (period : BitVec 16) : State :=
  { s with timer :=
    if s.scan.state = .stopped then { s.timer with period := period }
    else { s.timer with pendingPeriod := some period } }

/-- SCAN_CONFIG (R67). -/
def scanConfig (s : State) : Reply :=
  match sourceOfByte (s.arg 2), edgeOfByte (s.arg 3) with
  | some source, some edge =>
    if s.arg01 = 0 then .refuse .badParameter 0 0 0 0 s
    else if s.scan.state = .stopped then
      .done source.code edge.code 0 0
        (s.handPeriod s.arg01 |>.setScan { s.scan with source := source, edge := edge })
    else if source = s.scan.source ∧ edge = s.scan.edge then
      .done source.code edge.code 0 0 (s.handPeriod s.arg01)
    else .refuse .busy 0 0 0 0 s
  | _, _ => .refuse .badParameter 0 0 0 0 s

/-- The effect of SCAN_START in STOPPED (R64, R174). -/
def State.startScan (s : State) : State :=
  { s with
    scan := { s.scan with state := .waiting, overrun := 0, single := false }
    timer :=
      if s.scan.source = .timer then
        { s.timer with running := true, remaining := s.timer.period.toNat }
      else s.timer }

/-- SCAN_START (R64). -/
def scanStart (s : State) : Reply :=
  if s.scan.state = .stopped then
    .done (byteOf s.scan.cycle.toNat 0) (byteOf s.scan.cycle.toNat 1) 0 0 s.startScan
  else .refuse .busy 0 0 0 0 s

/-- SCAN_ONCE (R65): one cycle at once, by the steps of R68 but that no commit can be pending. -/
def scanOnce (s : State) : Reply :=
  if s.scan.state = .stopped then
    let n := s.scan.cycle + 1
    .done (byteOf n.toNat 0) (byteOf n.toNat 1) (BitVec.ofNat 8 (s.dueList n).length) 0
      (s.setScan { s.scan with single := true }).startCycle
  else .refuse .busy 0 0 0 0 s

/-- The effect of SCAN_STOP by the scan state (R66, R173). -/
def State.stopScan (s : State) : State :=
  match s.scan.state with
  | .waiting => s.reachStopped
  | .cycle =>
    let s := s.setScan { s.scan with due := [], single := false }
    if s.scan.jobsInFlight = 0 then s.reachStopped
    else
      { s with
        scan := { s.scan with state := .stopping }
        timer := { s.timer with running := false } }
  | .stopped | .stopping => s

/-- The due entries SCAN_STOP removes: those on the list in CYCLE (R66). -/
def State.stopRemoves (s : State) : Nat :=
  if s.scan.state = .cycle then s.scan.due.length else 0

/-- SCAN_STOP (R66). -/
def scanStop (s : State) : Reply :=
  .done s.stopScan.scan.state.code (BitVec.ofNat 8 s.stopRemoves)
    (BitVec.ofNat 8 s.stopScan.scan.jobsInFlight) 0 s.stopScan

/-- The command TIMEBASE_SET, code 0x20. -/
def execTimebaseSet (s : State) : Host.Outcome State Fault Refusal :=
  .next (s.takeCommand 0x20 timebaseSet)

/-- The command SCAN_CONFIG, code 0x28. -/
def execScanConfig (s : State) : Host.Outcome State Fault Refusal :=
  .next (s.takeCommand 0x28 scanConfig)

/-- The command SCAN_START, code 0x29. -/
def execScanStart (s : State) : Host.Outcome State Fault Refusal :=
  .next (s.takeCommand 0x29 scanStart)

/-- The command SCAN_ONCE, code 0x2A. -/
def execScanOnce (s : State) : Host.Outcome State Fault Refusal :=
  .next (s.takeCommand 0x2A scanOnce)

/-- The command SCAN_STOP, code 0x2B. -/
def execScanStop (s : State) : Host.Outcome State Fault Refusal :=
  .next (s.takeCommand 0x2B scanStop)

end Sys2Proof.Machine
end

