-- ==== Sys2Proof/Machine/TableCommands.lean ====
section
/-!
DEFINITION. The scan table commands (R54 to R61) and the profile commands (R31 to R34).
-/
namespace Sys2Proof.Machine

/-- ENTRY_WRITE (R54). -/
def entryWrite (s : State) : Reply :=
  match indexOfByte (s.arg 0) with
  | none => .refuse .badParameter 0 0 0 0 s
  | some i =>
    if s.scan.commitPending then .refuse .frozen 0 0 0 0 s
    else
      .done (s.arg 0) 0 0 0
        (s.setScan { s.scan with staging := s.scan.staging.set i (entryOfImage s.scan.image) })

/-- ENTRY_READ (R55): the third result byte tells whether an active entry stands on the due list. -/
def entryRead (s : State) : Reply :=
  match indexOfByte (s.arg 0), flagOfByte (s.arg 1) with
  | some i, some active =>
    .done (s.arg 0) (s.arg 1) (flagByte (active && decide (i ∈ s.scan.due))) 0
      (s.setScan { s.scan with
        image := imageOfEntry (if active then s.scan.active[i] else s.scan.staging[i]) })
  | _, _ => .refuse .badParameter 0 0 0 0 s

/-- TABLE_REVERT (R56). -/
def tableRevert (s : State) : Reply :=
  if s.scan.commitPending then .refuse .frozen 0 0 0 0 s
  else .done 0 0 0 0 (s.setScan { s.scan with staging := s.scan.active })

/-- The first entry of the staging table that fails a check, and the check (R57). -/
def Scan.commitFault (x : Scan) : Option (Fin 16 × Nat) :=
  (List.finRange 16).findSome? fun i => (x.staging[i]).failedCheck.map fun n => (i, n)

/-- The number of enabled entries of a table (R58, R59). -/
def enabledCount (t : Vector ScanEntry 16) : Nat := t.toList.countP (·.enabled)

/-- TABLE_COMMIT (R57): applied at once in STOPPED (R58), left pending in any other state (R59). -/
def tableCommit (s : State) : Reply :=
  if s.scan.commitPending then .refuse .frozen 0 0 0 0 s
  else
    match s.scan.commitFault with
    | some (i, n) => .refuse .badParameter (BitVec.ofNat 8 i.val) (BitVec.ofNat 8 n) 0 0 s
    | none =>
      let count := BitVec.ofNat 8 (enabledCount s.scan.staging)
      if s.scan.state = .stopped then .done 0 count 0 0 s.applyCommit
      else .done 1 count 0 0 (s.setScan { s.scan with commitPending := true })

/-- TABLE_ABANDON (R61). -/
def tableAbandon (s : State) : Reply :=
  if s.scan.commitPending then .done 0 0 0 0 (s.setScan { s.scan with commitPending := false })
  else .refuse .notPending 0 0 0 0 s

/-- The copies of jobs that name a profile are marked superseded (R33, R97). -/
def DispatchContext.supersede (p : Fin 4) (d : DispatchContext) : DispatchContext :=
  { d with job := d.job.map fun j => if j.profile = p then { j with superseded := true } else j }

/-- The effect of a successful PROFILE_WRITE: the profile takes the image with the next generation,
its two reference records are invalidated (R128), and copies in flight are superseded (R33). -/
def State.writeProfile (s : State) (p : Fin 4) : State :=
  ({ s with
      profiles := { s.profiles with
        records := s.profiles.records.set p
          (profileOfImage s.profiles.image ((s.profile p).generation + 1)) }
      dispatch := ⟨s.dispatch.a.supersede p, s.dispatch.b.supersede p⟩ }).invalidateProfile p

/-- PROFILE_WRITE (R31 to R33). -/
def profileWrite (s : State) : Reply :=
  match profileOfByte (s.arg 0) with
  | none => .refuse .badParameter 0 0 0 0 s
  | some p =>
    match profileFault s.profiles.image with
    | some n => .refuse .badParameter (BitVec.ofNat 8 n) 0 0 0 s
    | none => .done (s.arg 0) ((s.profile p).generation + 1) 0 0 (s.writeProfile p)

/-- PROFILE_READ (R34). -/
def profileRead (s : State) : Reply :=
  match profileOfByte (s.arg 0) with
  | none => .refuse .badParameter 0 0 0 0 s
  | some p =>
    .done (s.arg 0) (s.profile p).generation 0 0
      { s with profiles := { s.profiles with image := imageOfProfile (s.profile p) } }

/-- The command ENTRY_WRITE, code 0x30. -/
def execEntryWrite (s : State) : Host.Outcome State Fault Refusal :=
  .next (s.takeCommand 0x30 entryWrite)

/-- The command ENTRY_READ, code 0x31. -/
def execEntryRead (s : State) : Host.Outcome State Fault Refusal :=
  .next (s.takeCommand 0x31 entryRead)

/-- The command TABLE_REVERT, code 0x32. -/
def execTableRevert (s : State) : Host.Outcome State Fault Refusal :=
  .next (s.takeCommand 0x32 tableRevert)

/-- The command TABLE_COMMIT, code 0x33. -/
def execTableCommit (s : State) : Host.Outcome State Fault Refusal :=
  .next (s.takeCommand 0x33 tableCommit)

/-- The command TABLE_ABANDON, code 0x34. -/
def execTableAbandon (s : State) : Host.Outcome State Fault Refusal :=
  .next (s.takeCommand 0x34 tableAbandon)

/-- The command PROFILE_WRITE, code 0x38. -/
def execProfileWrite (s : State) : Host.Outcome State Fault Refusal :=
  .next (s.takeCommand 0x38 profileWrite)

/-- The command PROFILE_READ, code 0x39. -/
def execProfileRead (s : State) : Host.Outcome State Fault Refusal :=
  .next (s.takeCommand 0x39 profileRead)

end Sys2Proof.Machine
end

