-- ==== Sys2Proof/Machine/Decoder.lean ====
section
/-!
DEFINITION. The command decoder: the command summary's codes (R200), and the refusal of every other
code (R195).
-/
namespace Sys2Proof.Machine

/-- The command a code names (R200), or the refusal of R195. -/
def commandOf (code : Byte) : State → Reply :=
  match code.toNat with
  | 0x10 => cellEnable
  | 0x11 => cellDisable
  | 0x18 => channelSet
  | 0x19 => channelClearFault
  | 0x1A => faultThreshold
  | 0x20 => timebaseSet
  | 0x28 => scanConfig
  | 0x29 => scanStart
  | 0x2A => scanOnce
  | 0x2B => scanStop
  | 0x30 => entryWrite
  | 0x31 => entryRead
  | 0x32 => tableRevert
  | 0x33 => tableCommit
  | 0x34 => tableAbandon
  | 0x38 => profileWrite
  | 0x39 => profileRead
  | 0x3A => referenceInvalidate
  | 0x40 => requestSubmit
  | 0x41 => requestCancel
  | 0x42 => requestFlush
  | 0x48 => resultPop
  | 0x49 => resultFlush
  | 0x4A => resultWatermark
  | 0x50 => windowAck
  | 0x51 => eventAck
  | 0x5A => softReset
  | _ => badCode code

/-- A byte completes at the command location (R195). -/
def State.takeCode (s : State) (code : Byte) : State := s.takeCommand code (commandOf code)

end Sys2Proof.Machine
end

