-- ==== Sys2Proof/Machine/Window.lean ====
section
/-!
DEFINITION. The register window as a read shows it: every location's content (R191 to R193, R201 to
R203). The loads that read it, with the effects at offsets 11 and 80, stand in Machine/PortEvents.lean.
-/
namespace Sys2Proof.Machine

/-- The status region (R192). -/
def State.statusByte (s : State) (k : Nat) : Byte :=
  match k with
  | 0 => s.scan.state.code
  | 1 => byteOf s.scan.cycle.toNat 0
  | 2 => byteOf s.scan.cycle.toNat 1
  | 3 => s.scan.overrun
  | 4 => s.cells.a.state.code
  | 5 => s.cells.b.state.code
  | 6 => BitVec.ofNat 8 s.requests.queue.length
  | 7 => BitVec.ofNat 8 s.results.records.length
  | 8 => BitVec.ofNat 8 s.results.reserved
  | 9 => flagByte s.scan.commitPending
  | _ => 0

/-- The bytes a first-byte read of the result window copies: the head record, or the empty form
(R145, R146). -/
def State.headBytes (s : State) : Vector Byte 24 :=
  match s.results.records with
  | [] => emptyForm
  | head :: _ => head.bytes

/-- The content of a location as a read of it returns it (R191). Offset 11 returns the lowest byte of
the count it latches (R171), offset 80 the status it copies (R145). -/
def State.windowRead (s : State) (offset : Nat) : Byte :=
  if offset < 10 then s.statusByte offset
  else if offset = 11 then byteOf s.timebase.counter.toNat 0
  else if 12 ≤ offset ∧ offset < 15 then byteOf s.timebase.latch.toNat (offset - 11)
  else if offset = 15 then s.activeEvents
  else if offset = 16 then s.events.enable
  else if 17 ≤ offset ∧ offset < 25 then s.command.args[offset - 17]?.getD 0
  else if offset = 25 then s.command.code
  else if 26 ≤ offset ∧ offset < 30 then s.command.result[offset - 26]?.getD 0
  else if offset = 30 then s.command.status.code
  else if 32 ≤ offset ∧ offset < 47 then s.scan.image[offset - 32]?.getD 0
  else if 47 ≤ offset ∧ offset < 62 then s.profiles.image[offset - 47]?.getD 0
  else if 62 ≤ offset ∧ offset < 67 then s.requests.image[offset - 62]?.getD 0
  else if 67 ≤ offset ∧ offset < 77 then
    (s.channels.records[offset - 67]?.map ChannelRecord.byte).getD 0
  else if 77 ≤ offset ∧ offset < 79 then byteOf s.windows.changeSet.toNat (offset - 77)
  else if offset = 80 then s.headBytes[0]
  else if 81 ≤ offset ∧ offset < 104 then s.results.snapshot[offset - 80]?.getD 0
  else 0

/-- A byte written to a location that has no row of its own: the argument bytes and the three images
take it, but for the profile image's generation byte; any other location ignores it (R30, R191). -/
def State.windowWrite (s : State) (offset : Nat) (b : Byte) : State :=
  if 17 ≤ offset ∧ offset < 25 then
    { s with command := { s.command with args := s.command.args.setIfInBounds (offset - 17) b } }
  else if 32 ≤ offset ∧ offset < 47 then
    { s with scan := { s.scan with image := s.scan.image.setIfInBounds (offset - 32) b } }
  else if 47 ≤ offset ∧ offset < 61 then
    { s with profiles := { s.profiles with
      image := s.profiles.image.setIfInBounds (offset - 47) b } }
  else if 62 ≤ offset ∧ offset < 67 then
    { s with requests := { s.requests with
      image := s.requests.image.setIfInBounds (offset - 62) b } }
  else s

end Sys2Proof.Machine
end

