-- ==== Sys2Proof/Machine/PortEvents.lean ====
section
/-!
DEFINITION. The serial port: bytes and frames (R181, R187 to R190), the reads of a READ frame (R145,
R171, R188), the edges of SCK (R187), and what an idle step takes. A row of the table stands for a
whole byte or for one edge; what the row's event cannot meet changes nothing (log 2).
-/
namespace Sys2Proof.Machine

/-- The address pointer after a complete data byte: it holds at 25, 15 and 30, and stops at 127
(R189). -/
def nextPointer (p : BitVec 7) : BitVec 7 :=
  if p = 25 ∨ p = 15 ∨ p = 30 ∨ p = 127 then p else p + 1

/-! ### Complete bytes -/

/-- A data byte of a WRITE frame is complete and the pointer moves on (R187, R189). -/
def Port.completeByte (b : Byte) (p : Port) : Port :=
  { p.complete b with pointer := nextPointer p.pointer }

/-- A header byte is complete: the most significant bit gives the direction, the other seven the
starting offset (R187). -/
def State.takeHeader (s : State) (b : Byte) : State :=
  if s.port.frame = .header ∧ s.port.bitCount = 0 then
    let reads := b.getLsbD 7
    { s with port := { s.port.complete b with
      frame := if reads then .read else .write
      direction := if reads then .read else .write
      pointer := b.setWidth 7 } }
  else s

/-- A byte completes at the event enable location: the enable set takes it whole (R181). -/
def State.writeEnable (s : State) (b : Byte) : State :=
  if s.port.frame = .write ∧ s.port.bitCount = 0 ∧
      s.port.pointer.toNat = Config.enableOffset then
    { s with events := { s.events with enable := b }, port := s.port.completeByte b }
  else s

/-- A data byte of a WRITE frame is complete (R188). The command location and the event enable
location have rows of their own, and a byte given for them here is handed to those (log 16). -/
def State.writeByte (s : State) (b : Byte) : State :=
  if s.port.frame = .write ∧ s.port.bitCount = 0 then
    if s.port.pointer.toNat = Config.commandOffset then s.takeCode b
    else if s.port.pointer.toNat = Config.enableOffset then s.writeEnable b
    else
      let s' := s.windowWrite s.port.pointer.toNat b
      { s' with port := s.port.completeByte b }
  else s

/-! ### The reads of a READ frame -/

/-- The next falling edge of SCK loads a byte: in a READ frame, the edge that follows the completion
of the header or of the byte before it (R188). -/
def Port.loadDue (p : Port) : Bool :=
  decide (p.frame = .read) && decide (p.bitCount = 0) && p.sckHigh

/-- A level for a bit. -/
def levelOf (b : Bool) : Level := if b then .high else .low

/-- The port after the load of a byte: its most significant bit appears on SDO (R188). -/
def Port.load (b : Byte) (p : Port) : Port :=
  { p with shift := b, sdo := levelOf b.msb, sckHigh := false }

/-- The load of offset 11: all four bytes of the counter are latched (R171). -/
def State.latchCounter (s : State) : State :=
  if s.port.loadDue = true ∧ s.port.pointer.toNat = Config.latchOffset then
    { s with
      timebase := { s.timebase with latch := s.timebase.counter }
      port := s.port.load (byteOf s.timebase.counter.toNat 0) }
  else s

/-- The load of offset 80: the head record, or the empty form, is copied into the snapshot, and the
current mark is set or cleared (R145, R146). -/
def State.copySnapshot (s : State) : State :=
  if s.port.loadDue = true ∧ s.port.pointer.toNat = Config.snapshotOffset then
    { s with
      results := { s.results with
        snapshot := s.headBytes, current := decide (s.results.records ≠ []) }
      port := s.port.load s.headBytes[0] }
  else s

/-- The load of the byte at the address pointer, with the effects of its read (R188, R191). -/
def State.loadByte (s : State) : State :=
  if s.port.pointer.toNat = Config.latchOffset then s.latchCounter
  else if s.port.pointer.toNat = Config.snapshotOffset then s.copySnapshot
  else { s with port := s.port.load (s.windowRead s.port.pointer.toNat) }

/-! ### The edges of SCK (R187) -/

/-- A bit is captured at a rising edge of SCK, the first one becoming the most significant (R187). -/
def Port.capture (sdi : Level) (p : Port) : Port :=
  { p with
    shift := (p.shift <<< 1) ||| flagByte (decide (sdi = .high))
    bitCount := p.bitCount + 1, sckHigh := true }

/-- The byte in the shift register is complete (R187 to R189). -/
def State.byteComplete (s : State) : State :=
  match s.port.frame with
  | .noFrame => s
  | .header => s.takeHeader s.port.shift
  | .write => s.writeByte s.port.shift
  | .read => { s with port := { s.port with pointer := nextPointer s.port.pointer } }

/-- A rising edge of SCK: in a frame a bit is captured, and with the eighth the byte is complete
(R187). With SCK already high there is no such edge (log 2). -/
def State.sckRise (s : State) (sdi : Level) : State :=
  if s.port.sckHigh then s
  else if s.port.frame = .noFrame then { s with port := { s.port with sckHigh := true } }
  else
    let s := { s with port := s.port.capture sdi }
    if s.port.bitCount = 0 then s.byteComplete else s

/-- A falling edge of SCK away from a load: in a READ frame SDO takes the next bit (R187, R188). -/
def Port.fall (p : Port) : Port :=
  { p with
    sckHigh := false
    sdo := if p.frame = .read then levelOf p.shift.msb else p.sdo }

/-- A falling edge of SCK (R187, R188). With SCK already low there is no such edge (log 2). -/
def State.sckFall (s : State) : State :=
  if s.port.sckHigh then
    if s.port.loadDue then s.loadByte else { s with port := s.port.fall }
  else s

/-! ### Frames -/

/-- A falling edge of CS#; while RESET# is held low it begins no frame (R187, R199). With CS# already
low there is no such edge (log 2). -/
def State.beginFrame (s : State) : State :=
  if s.port.csLow then s
  else if s.resetHeld then { s with port := { s.port with csLow := true } }
  else { s with port := { s.port with
    csLow := true, frame := .header, bitCount := 0, sdo := .low } }

/-- A rising edge of CS# ends the frame, and a byte that is not complete is discarded (R190). SCK idles
low (R187): the falling edge that ends the last byte, with its load, comes before (R188, R190). With
CS# already high there is no such edge (log 2). -/
def State.endFrame (s : State) : State :=
  if s.port.csLow then
    let s := s.sckFall
    { s with port := { s.port with csLow := false, frame := .noFrame, bitCount := 0 } }
  else s

/-! ### What arrives while no command waits -/

/-- One event of the wire: an edge of SCK, a CLKIN period, or a row, which then waits as a command
(logs 4 and 12). -/
def State.takeWire (s : State) : WireEvent → State
  | .sckRises sdi => s.sckRise sdi
  | .sckFalls => s.sckFall
  | .period => s.clkin
  | .row c => { s with pending := s.pending ++ [c] }

/-- What a step does while no command waits: the next event of the wire, and with none a CLKIN period
(DESIGN CHOICE, logs 4 and 12). -/
def State.idle (s : State) : State :=
  match s.wire with
  | [] => s.clkin
  | e :: rest => ({ s with wire := rest }).takeWire e

/-! ### The rows -/

/-- The row FRAME_BEGIN. -/
def execFrameBegin (s : State) : Host.Outcome State Fault Refusal := .next s.beginFrame

/-- The row FRAME_END. -/
def execFrameEnd (s : State) : Host.Outcome State Fault Refusal := .next s.endFrame

/-- The row HEADER. -/
def execHeader (b : Byte) (s : State) : Host.Outcome State Fault Refusal := .next (s.takeHeader b)

/-- The row EVENT_ENABLE_WRITE. -/
def execEventEnableWrite (b : Byte) (s : State) : Host.Outcome State Fault Refusal :=
  .next (s.writeEnable b)

/-- The row REGISTER_WRITE. -/
def execRegisterWrite (b : Byte) (s : State) : Host.Outcome State Fault Refusal :=
  .next (s.writeByte b)

/-- The row INTERVAL_COUNTER_LATCH. -/
def execIntervalCounterLatch (s : State) : Host.Outcome State Fault Refusal := .next s.latchCounter

/-- The row RESULT_SNAPSHOT_COPY. -/
def execResultSnapshotCopy (s : State) : Host.Outcome State Fault Refusal := .next s.copySnapshot

end Sys2Proof.Machine
end

