-- ==== Sys2Proof/Machine/Pins.lean ====
section
/-!
DEFINITION. The output pins as functions of the state (log 18): the capacitor pins and channel pins
(R2) and SDO (R187). IRQ# is `State.irqLow` (R182).
-/
namespace Sys2Proof.Machine

/-- What a pin does. -/
inductive Drive where
  | floats
  | low
  | high
  deriving DecidableEq, Repr

/-- The capacitor pin of a cell; released is floating (R2). -/
def Cell.capacitorPin (k : Cell) : Drive :=
  match k.state with
  | .down => .floats
  | .resting | .idle => .low
  | .starting | .measuring | .discharging => .floats
  | .precharging => .high

/-- The selected channel pin of a cell in its state (R2). -/
def Cell.selectedPin (k : Cell) : Drive :=
  match k.state with
  | .starting | .measuring =>
    match k.level with
    | .low => .high
    | .high => .low
  | .discharging => .low
  | .down | .resting | .idle | .precharging => .floats

/-- A channel pin: one that is not selected floats in every state (R2). -/
def State.channelPin (s : State) (ch : Fin 10) : Drive :=
  let k := s.cell (cellOf ch)
  match k.order with
  | some o => if o.channel = ch then k.selectedPin else .floats
  | none => .floats

/-- What a pin does that drives a level. -/
def driveOf : Level → Drive
  | .low => .low
  | .high => .high

/-- SDO: it floats in NO_FRAME, and so during a device reset (R187, R199); it drives low in a header
and a WRITE frame, and in a READ frame the level of the last falling edge of SCK (R187, R188). -/
def State.sdo (s : State) : Drive :=
  match s.port.frame with
  | .noFrame => .floats
  | .header | .write => .low
  | .read => driveOf s.port.sdo

end Sys2Proof.Machine
end

