-- ==== Sys2Proof/Machine/ResetEvents.lean ====
section
/-!
DEFINITION. RESET# (R199): the device reset of every block, and its release.
-/
namespace Sys2Proof.Machine

/-- RESET# goes low, or power-up: every block takes its device-reset values (R25, R27, R50, R52, R78,
R81, R96, R114, R135, R154, R168, R177, R186, R194, R196, R199). What the pins give stays: the
Schmitt levels, TRIG, CS# and SCK (R3, R199; log 10). -/
def State.deviceReset (s : State) : State :=
  { State.reset with
    cells := ⟨Cell.reset s.cells.a.level, Cell.reset s.cells.b.level⟩
    trig := Trig.reset s.trig.pin
    port := Port.reset s.port.csLow s.port.sckHigh
    resetHeld := true
    freeIndex := s.freeIndex
    pending := s.pending
    wire := s.wire }

/-- RESET# goes high: ticks are counted again and frames may begin (R169, R199). -/
def State.releaseReset (s : State) : State := { s with resetHeld := false }

/-- The row DEVICE_RESET. -/
def execDeviceReset (s : State) : Host.Outcome State Fault Refusal := .next s.deviceReset

/-- The row RESET_RELEASE. -/
def execResetRelease (s : State) : Host.Outcome State Fault Refusal := .next s.releaseReset

end Sys2Proof.Machine
end

