-- ==== Sys2Proof/Machine/Dispatch.lean ====
section
/-! DEFINITION. The dispatch of every row to its meaning. -/
namespace Sys2Proof.Machine

/-- What a command does to the part, its queue aside. -/
def exec (i : Instr) (s : State) : Host.Outcome State Fault Refusal :=
  match i with
  | .cellEnable => Sys2Proof.Machine.execCellEnable s
  | .cellDisable => Sys2Proof.Machine.execCellDisable s
  | .channelSet => Sys2Proof.Machine.execChannelSet s
  | .channelClearFault => Sys2Proof.Machine.execChannelClearFault s
  | .faultThreshold => Sys2Proof.Machine.execFaultThreshold s
  | .timebaseSet => Sys2Proof.Machine.execTimebaseSet s
  | .scanConfig => Sys2Proof.Machine.execScanConfig s
  | .scanStart => Sys2Proof.Machine.execScanStart s
  | .scanOnce => Sys2Proof.Machine.execScanOnce s
  | .scanStop => Sys2Proof.Machine.execScanStop s
  | .entryWrite => Sys2Proof.Machine.execEntryWrite s
  | .entryRead => Sys2Proof.Machine.execEntryRead s
  | .tableRevert => Sys2Proof.Machine.execTableRevert s
  | .tableCommit => Sys2Proof.Machine.execTableCommit s
  | .tableAbandon => Sys2Proof.Machine.execTableAbandon s
  | .profileWrite => Sys2Proof.Machine.execProfileWrite s
  | .profileRead => Sys2Proof.Machine.execProfileRead s
  | .referenceInvalidate => Sys2Proof.Machine.execReferenceInvalidate s
  | .requestSubmit => Sys2Proof.Machine.execRequestSubmit s
  | .requestCancel => Sys2Proof.Machine.execRequestCancel s
  | .requestFlush => Sys2Proof.Machine.execRequestFlush s
  | .resultPop => Sys2Proof.Machine.execResultPop s
  | .resultFlush => Sys2Proof.Machine.execResultFlush s
  | .resultWatermark => Sys2Proof.Machine.execResultWatermark s
  | .windowAck => Sys2Proof.Machine.execWindowAck s
  | .eventAck => Sys2Proof.Machine.execEventAck s
  | .softReset => Sys2Proof.Machine.execSoftReset s
  | .badCommand code => Sys2Proof.Machine.execBadCommand code s
  | .eventEnableWrite value => Sys2Proof.Machine.execEventEnableWrite value s
  | .registerWrite value => Sys2Proof.Machine.execRegisterWrite value s
  | .intervalCounterLatch => Sys2Proof.Machine.execIntervalCounterLatch s
  | .resultSnapshotCopy => Sys2Proof.Machine.execResultSnapshotCopy s
  | .frameBegin => Sys2Proof.Machine.execFrameBegin s
  | .header value => Sys2Proof.Machine.execHeader value s
  | .frameEnd => Sys2Proof.Machine.execFrameEnd s
  | .deviceReset => Sys2Proof.Machine.execDeviceReset s
  | .trigEdge => Sys2Proof.Machine.execTrigEdge s
  | .intervalTick => Sys2Proof.Machine.execIntervalTick s
  | .scanTimerExpiry => Sys2Proof.Machine.execScanTimerExpiry s
  | .upperCrossing cell => Sys2Proof.Machine.execUpperCrossing cell s
  | .lowerCrossing cell => Sys2Proof.Machine.execLowerCrossing cell s
  | .restExpiry cell => Sys2Proof.Machine.execRestExpiry cell s
  | .gateExpiry cell => Sys2Proof.Machine.execGateExpiry cell s
  | .prechargeExpiry cell => Sys2Proof.Machine.execPrechargeExpiry cell s
  | .stallExpiry cell => Sys2Proof.Machine.execStallExpiry cell s
  | .periodOverflow cell => Sys2Proof.Machine.execPeriodOverflow cell s
  | .dispatchAttempt cell => Sys2Proof.Machine.execDispatchAttempt cell s
  | .commitApply => Sys2Proof.Machine.execCommitApply s
  | .timebaseTick trig => Sys2Proof.Machine.execTimebaseTick trig s
  | .resetRelease => Sys2Proof.Machine.execResetRelease s

end Sys2Proof.Machine
end

