-- ==== Sys2Proof/Safety.lean ====
section
/-!
DEFINITION. What holds of the part at every moment, in the terms the statements use: the stages of a
job and its cell (R98), the accounting of result slots (R98, R141), the sequence numbers (R144), the
scan sequencer's states (R59, R60, R63, R173), the ranges of the registers (R26, R38, R57),
readings that are never 0 (R18, R117, R132), the timers of a cell in each state (R3, R21), the
qualification of windows (R155, R161) and the serial port's states (R187, R199); what outcomes leave
alone; what taking an order, the completion check and the end of a job do (R7, R73 to R75); and the
report that a command leaves (R194 to R196).
-/
namespace Sys2Proof.Machine

/-! ### Stages (R98) -/

/-- The stage of a cell and its job context (R98): free (DOWN, RESTING or IDLE, no order); between
orders (RESTING, phase MAIN, no order); or converting for the job (an order is present). -/
def stageLegal (k : Cell) : Option Job → Bool
  | none => !k.state.converting && k.order.isNone
  | some j =>
    (k.state.converting && k.order.isSome) ||
      (decide (k.state = .resting) && k.order.isNone && decide (j.phase = .main))

/-- Both cells stand in one of the stages of R98. -/
structure StagesHold (s : State) : Prop where
  a : stageLegal (s.cell .a) (s.job .a) = true
  b : stageLegal (s.cell .b) (s.job .b) = true

/-! ### Result slots (R98, R141) -/

/-- The reserved slots held by the job of a cell, 0 when it is free (R97). -/
def State.slotsHeld (s : State) (c : CellId) : Nat :=
  match s.job c with
  | none => 0
  | some j => j.slots

/-- A job holds 1 slot, or 2 before its reference outcome (R97, R107, R109). -/
def Job.slotsLegal (j : Job) : Bool :=
  decide (j.slots = 1) || (decide (j.slots = 2) && decide (j.phase = .reference))

/-- The slots of the result queue are accounted for (R98, R141). -/
structure SlotsAccounted (s : State) : Prop where
  fits : s.results.records.length + s.results.reserved ≤ 32
  held : s.results.reserved = s.slotsHeld .a + s.slotsHeld .b
  legalA : (s.job .a).all Job.slotsLegal = true
  legalB : (s.job .b).all Job.slotsLegal = true

/-! ### Sequence numbers (R144) -/

/-- Read from head to tail, the records carry consecutive sequence numbers modulo 65536, and the next
number follows the tail's (R144). -/
def SequencesFollow (s : State) : Prop :=
  ∀ i (h : i < s.results.records.length),
    (s.results.records[i]).sequence =
      s.results.nextSequence - BitVec.ofNat 16 (s.results.records.length - i)

/-! ### The scan sequencer (R59, R60, R63, R173) -/

/-- A job of SCAN origin. -/
def Job.isScan (j : Job) : Bool :=
  match j.origin with
  | .scan _ _ => true
  | .request _ => false

/-- 1 for a cell that holds a scan job, else 0. -/
def State.scanJobs (s : State) (c : CellId) : Nat :=
  match s.job c with
  | some j => if j.isScan then 1 else 0
  | none => 0

/-- The scan sequencer's registers agree with one another. -/
structure ScanConsistent (s : State) : Prop where
  /-- The jobs in flight are the scan jobs held (R63). -/
  inFlight : s.scan.jobsInFlight = s.scanJobs .a + s.scanJobs .b
  /-- Due entries stand only in a cycle (R66, R69). -/
  due : s.scan.state ≠ .cycle → s.scan.due = []
  /-- Scan jobs are in flight only in CYCLE and STOPPING (R60). -/
  quiet : s.scan.state = .stopped ∨ s.scan.state = .waiting → s.scan.jobsInFlight = 0
  /-- The single-cycle mark stands only in its cycle (R65, R74). -/
  single : s.scan.single = true → s.scan.state = .cycle
  /-- No commit is pending in STOPPED (R60, R65). -/
  pending : s.scan.commitPending = true → s.scan.state ≠ .stopped
  /-- The scan timer runs only under the source TIMER, in WAITING and in cycles that are not single
  (R173). -/
  running : s.timer.running = true → s.scan.source = .timer ∧
    (s.scan.state = .waiting ∨ (s.scan.state = .cycle ∧ s.scan.single = false))
  /-- No period is pending in STOPPED (R175). -/
  period : s.scan.state = .stopped → s.timer.pendingPeriod = none
  /-- The due list holds its indexes in increasing order, each at most once (R63, R69). -/
  sorted : s.scan.due.Pairwise (· < ·)

/-! ### Ranges (R26, R38, R57, R169, R173) -/

/-- A profile holds values in range (R26). -/
def Profile.legal (p : Profile) : Bool :=
  decide (p.settle ≤ 15) && decide (1 ≤ p.cycles ∧ p.cycles ≤ 256) &&
    decide (1 ≤ p.gate ∧ p.gate ≤ 1000) && decide (1 ≤ p.precharge ∧ p.precharge ≤ 65535) &&
    decide (1 ≤ p.stallLimit ∧ p.stallLimit ≤ 65535) && decide (p.lifetime ≤ 65535) &&
    decide (1 ≤ p.useLimit ∧ p.useLimit ≤ 255)

/-- A channel record is in range: the level is absent exactly when the count is 0, and a GOOD channel
has no stalls (R38, R41, R42). -/
def ChannelRecord.legal (r : ChannelRecord) : Bool :=
  decide (r.stalls ≤ 7) && (r.lastLevel.isNone == decide (r.stalls = 0)) &&
    (decide (r.health ≠ .good) || decide (r.stalls = 0)) &&
    (decide (r.health ≠ .suspect) || decide (r.stalls ≠ 0))

/-- An order holds the parameters of a profile in range (R7, R26). -/
def Order.legal (o : Order) : Bool :=
  decide (o.settle ≤ 15) && decide (1 ≤ o.cycles ∧ o.cycles ≤ 256) &&
    decide (1 ≤ o.gate ∧ o.gate ≤ 1000) && decide (1 ≤ o.precharge ∧ o.precharge ≤ 65535) &&
    decide (1 ≤ o.stallLimit ∧ o.stallLimit ≤ 65535)

/-- The registers hold values in their ranges. -/
structure RangesHold (s : State) : Prop where
  /-- All four profiles hold valid values at all times (R26). -/
  profiles : ∀ p : Fin 4, (s.profile p).legal = true
  /-- The channel records (R38). -/
  channels : ∀ ch : Fin 10, (s.channel ch).legal = true
  /-- The fault threshold runs from 1 to 7 (R38). -/
  threshold : 1 ≤ s.channels.threshold ∧ s.channels.threshold ≤ 7
  /-- The watermark runs from 1 to 32 (R140). -/
  watermark : 1 ≤ s.results.watermark ∧ s.results.watermark ≤ 32
  /-- The request queue holds at most 8 records (R80). -/
  requests : s.requests.queue.length ≤ 8
  /-- The divider is at least 100 (R169). -/
  divider : 100 ≤ s.timebase.divider.toNat
  /-- The scan periods are at least 1 (R173). -/
  period : s.timer.period ≠ 0
  pendingPeriod : s.timer.pendingPeriod ≠ some 0
  /-- An active entry that is enabled holds values in range (R51, R57). -/
  active : ∀ i : Fin 16, (s.scan.active[i]).failedCheck = none
  /-- The staging table of a pending commit has passed its checks (R59). -/
  staging : s.scan.commitPending = true → ∀ i : Fin 16, (s.scan.staging[i]).failedCheck = none
  /-- A job's profile copy holds fields that a profile held (R35). -/
  copies : ∀ c, (s.job c).all (fun j => j.copy.legal) = true
  /-- The order of a cell holds the parameters of such a copy (R7). -/
  orders : ∀ c, (s.cell c).order.all Order.legal = true

/-! ### Readings (R18, R117, R132) -/

/-- A result record carries a ratio only with status OK, on a sensor channel, and with both raw
values nonzero (R132); a raw value is never 0 (R136). -/
def Record.readingsLegal (r : Record) : Bool :=
  decide (r.raw ≠ some 0) &&
    match r.ratio with
    | none => true
    | some q =>
      decide (r.status = .ok) && decide (r.channel.val < 8) && r.raw.isSome &&
        decide (q.reference ≠ 0)

/-- A job's pairing value is never 0, and a ratio job is on a sensor channel (R97). -/
def Job.readingsLegal (j : Job) : Bool :=
  decide (j.pairing ≠ some 0) && (!j.ratio || decide (j.channel.val < 8))

/-- A valid reference record holds a nonzero reading (R117). -/
def ReferenceRecord.readingLegal (r : ReferenceRecord) : Bool := !r.valid || decide (r.raw ≠ 0)

/-- The samples completed so far are each at least 1 (R18). -/
def Cell.samplesLegal (k : Cell) : Bool := decide (k.samplesDone ≤ k.accumulator)

/-- No reading is 0. -/
structure ReadingsPositive (s : State) : Prop where
  records : s.results.records.all Record.readingsLegal = true
  jobs : ∀ c, (s.job c).all Job.readingsLegal = true
  references : ∀ c (p : Fin 4), (s.reference c p).readingLegal = true
  cells : ∀ c, (s.cell c).samplesLegal = true

/-! ### Cells (R3, R5, R17, R21, R23) -/

/-- The timers that run in each state (R3, R5, R10, R13, R15, R16, R21). -/
def Cell.timersLegal (k : Cell) : Bool :=
  match k.state, k.order, k.phaseTimer, k.stallTimer with
  | .down, none, .stopped, none => true
  | .resting, none, .down n, none => decide (n ≤ 32)
  | .idle, none, .stopped, none => true
  | .starting, some o, .stopped, some _ => decide (o.method ≠ .slope) && decide (k.crossings = 0)
  | .measuring, some o, .stopped, some _ => decide (o.method = .count)
  | .measuring, some o, .down _, some _ => decide (o.method = .count)
  | .measuring, some o, .up _, some _ => decide (o.method = .period)
  | .precharging, some o, .down _, none => decide (o.method = .slope)
  | .discharging, some o, .up _, some _ => decide (o.method = .slope)
  | _, _, _, _ => false

/-- The counts of an order: below M samples are done while it runs (R17), and without an order the
crossing counter, the accumulator and samples done are 0 (R3, R23). -/
def Cell.countsLegal (k : Cell) : Bool :=
  match k.order with
  | some o => decide (k.samplesDone < o.m.toNat)
  | none => decide (k.crossings = 0 ∧ k.accumulator = 0 ∧ k.samplesDone = 0)

/-- In each state exactly its timers run, and the counts fit the order. -/
structure CellsTimed (s : State) : Prop where
  timers : ∀ c, (s.cell c).timersLegal = true
  counts : ∀ c, (s.cell c).countsLegal = true

/-! ### Windows (R155, R161, R166) -/

/-- A window state record agrees with its entry: a pending class and a count stand together, apart
from the state and below the qualify count, and only an entry with a window is classified. -/
structure WindowRecord.Fits (k : WindowRecord) (w : Option Window) : Prop where
  together : k.pending = none ↔ k.count = 0
  apart : k.pending ≠ none → k.state ≠ none ∧ k.pending ≠ k.state
  below : k.count ≠ 0 → ∃ x, w = some x ∧ k.count < x.qualify.toNat
  windowed : k.state ≠ none → w ≠ none

/-- Every window state record fits its active entry, and members of the change set have been
classified. -/
structure WindowsFit (s : State) : Prop where
  records : ∀ i : Fin 16, (s.windows.records[i]).Fits (s.scan.active[i]).window
  members : ∀ i : Fin 16, s.windows.changeSet.getLsbD i.val = true →
    (s.windows.records[i]).state ≠ none

/-! ### Serial port (R187, R199) -/

/-- The frame state agrees with CS#, with RESET# and with the direction. -/
structure PortConsistent (s : State) : Prop where
  /-- While CS# is high the frame state is NO_FRAME (R187). -/
  csHigh : s.port.csLow = false → s.port.frame = .noFrame
  /-- While RESET# is held low the port is held in NO_FRAME (R199). -/
  reset : s.resetHeld = true → s.port.frame = .noFrame
  write : s.port.frame = .write → s.port.direction = .write
  read : s.port.frame = .read → s.port.direction = .read
  /-- Between frames no bit of a byte is held (R187, R190). -/
  bits : s.port.frame = .noFrame → s.port.bitCount = 0
  /-- SDO carries no data before the first load of a READ frame (R187, R188). -/
  sdo : s.port.frame = .header ∨ s.port.frame = .write → s.port.sdo = .low

/-! ### What outcomes, rests and attempts leave alone -/

/-- The registers that no outcome, no rest, no dispatch attempt and no abort moves: the profiles, the
threshold, all of the scan sequencer but its active table, state, marks and due list, the images, all
of the result queue but its records, reserved count and next number, the timebase, the TRIG detector,
the enable set, the serial port and the command unit. -/
structure SettingsKept (s t : State) : Prop where
  profiles : t.profiles = s.profiles
  threshold : t.channels.threshold = s.channels.threshold
  scan : t.scan = { s.scan with
    active := t.scan.active, state := t.scan.state, single := t.scan.single
    commitPending := t.scan.commitPending, due := t.scan.due
    jobsInFlight := t.scan.jobsInFlight }
  requestImage : t.requests.image = s.requests.image
  results : t.results = { s.results with
    records := t.results.records, reserved := t.results.reserved
    nextSequence := t.results.nextSequence }
  timebase : t.timebase = s.timebase
  trig : t.trig = s.trig
  enable : t.events.enable = s.events.enable
  port : t.port = s.port
  command : t.command = s.command
  resetHeld : t.resetHeld = s.resetHeld

/-! ### Orders, and what the end of a job does -/

/-- A cell that takes an order, from `k` to `t` (R7, R8, R15): STARTING with the settle count S and
the stall timer at 0 for COUNT and PERIOD, PRECHARGING with the phase timer at P for SLOPE. -/
structure TakesOrder (k : Cell) (o : Order) (t : Cell) : Prop where
  oscillating : o.method ≠ .slope → t = { k with
    state := .starting, order := some o, phaseTimer := .stopped, stallTimer := some 0
    settleLeft := o.settle, crossings := 0, accumulator := 0, samplesDone := 0
    referenceTaken := false }
  slope : o.method = .slope → t = { k with
    state := .precharging, order := some o, phaseTimer := .down o.precharge, stallTimer := none
    crossings := 0, accumulator := 0, samplesDone := 0, referenceTaken := false }

/-- The scan that reaches STOPPED, from `u` to `t` (R60, R166, R173, R175): the scan timer stops and a
pending period becomes the current one; a pending commit is applied, and the windows of the entries
that changed return to UNKNOWN and leave the change set. -/
structure ScanStops (u t : State) : Prop where
  scan : t.scan = { u.scan with
    state := .stopped, commitPending := false
    active := if u.scan.commitPending then u.scan.staging else u.scan.active }
  timer : t.timer = { u.timer with
    running := false, period := u.timer.pendingPeriod.getD u.timer.period, pendingPeriod := none }
  windows : ∀ i : Fin 16, t.windows.records[i] =
    if u.scan.commitPending = true ∧ u.scan.staging[i] ≠ u.scan.active[i] then
      WindowRecord.unknown
    else u.windows.records[i]
  members : ∀ i : Fin 16, t.windows.changeSet.getLsbD i.val =
    (u.windows.changeSet.getLsbD i.val &&
      !(u.scan.commitPending && decide (u.scan.staging[i] ≠ u.scan.active[i])))
  events : t.events = (if u.scan.commitPending then u.raise .commitApplied else u).events

/-- The completion check, from `u` to `t` (R74, R75): in CYCLE with an empty due list and no scan job
in flight the cycle completes, with SCAN_DONE, to WAITING or, with the single-cycle mark, to STOPPED
with SCAN_STOPPED; in STOPPING with none in flight the scan is STOPPED with SCAN_STOPPED; in any
other case nothing changes. -/
structure CompletionChecked (u t : State) : Prop where
  completes : u.scan.state = .cycle → u.scan.due = [] → u.scan.jobsInFlight = 0 →
    u.scan.single = false →
    t.scan = { u.scan with state := .waiting } ∧ t.timer = u.timer ∧ t.windows = u.windows ∧
      t.events = (u.raise .scanDone).events
  completesOnce : u.scan.state = .cycle → u.scan.due = [] → u.scan.jobsInFlight = 0 →
    u.scan.single = true →
    ScanStops (((u.setScan { u.scan with single := false }).raise .scanDone).raise .scanStopped) t
  stops : u.scan.state = .stopping → u.scan.jobsInFlight = 0 →
    ScanStops (u.raise .scanStopped) t
  waits : u.scan.state = .stopped ∨ u.scan.state = .waiting ∨ u.scan.jobsInFlight ≠ 0 ∨
      (u.scan.state = .cycle ∧ u.scan.due ≠ []) →
    t.scan = u.scan ∧ t.timer = u.timer ∧ t.windows = u.windows ∧ t.events = u.events

/-- The end of a job of a cell with a record, from `u` to `t` (R73, R94, R104, R110, R111, R142,
R156): the record is appended into the job's slot with the next sequence number and the context is
released. A request's record raises REQUEST_DONE. A scan job's record is first shown to the window
monitor, which may mark it, and the end is handed to the scan sequencer: one job fewer is in flight,
and the completion check is made. -/
structure JobEnds (u : State) (c : CellId) (j : Job) (r : Record) (t : State) : Prop where
  job : t.job c = none
  otherJob : t.job c.other = u.job c.other
  number : t.results.nextSequence = u.results.nextSequence + 1
  slot : t.results.reserved = u.results.reserved - 1
  request : ∀ tag, j.origin = .request tag →
    t.results.records = u.results.records ++ [{ r with sequence := u.results.nextSequence }] ∧
      t.scan = u.scan ∧ t.timer = u.timer ∧ t.windows = u.windows ∧
      t.events = (u.raise .requestDone).events
  scan : ∀ i n, j.origin = .scan i n →
    let seen := u.monitor i r
    t.results.records =
        u.results.records ++ [{ seen.1 with sequence := u.results.nextSequence }] ∧
      CompletionChecked { seen.2 with scan :=
        { u.scan with jobsInFlight := u.scan.jobsInFlight - 1 } } t

/-! ### The report of a command (R194 to R196) -/

/-- The number a cell has in an argument byte (R4, R6). -/
def cellNumber : CellId → Byte
  | .a => 0
  | .b => 1

/-- A state with the report of the command just taken: its code at the command location, its status
and its four result bytes; the shift register holds the byte that was the code. -/
def State.reported (s : State) (code : Byte) (status : CommandStatus) (b0 b1 b2 b3 : Byte) :
    State :=
  { s with
    port := s.port.complete code
    command := { s.command with code := code, status := status, result := #v[b0, b1, b2, b3] } }

end Sys2Proof.Machine
end

