-- ==== Sys2Proof/Certificates/Slice0/Obligations.lean ====
section
/-!
DEFINITION. The statements for the provers, in the order of OBLIGATIONS.json. A command by code is
stated where its byte can complete: in a WRITE frame whose address pointer stands at the command
location (`atCommand`); what it does elsewhere is CodesNameCommands.
-/
section
open Sys2Proof Sys2Proof.Machine

/-! ### The machine as a whole -/

/-- One command at a time, first in, first out: a step with a command at the front of the queue is
that command's effect on the state with the rest of the queue. -/
def Obligations.StepTakesFrontCommand : Prop :=
  ∀ (c : Instr) (rest : List Instr) (s : State),
    step { s with pending := c :: rest } = exec c { s with pending := rest }

/-- The model's choices (logs 3, 4 and 12): a step on an empty queue takes the next event of the
wire, an edge of SCK, a CLKIN period or a row that then waits, and with an empty wire it is one
CLKIN period. A CLKIN period advances the prescaler phase, once the arrivals that an earlier tick
left due are taken in some order until none is, and the one that completes the prescale is a
timebase tick (R169); while RESET# is held low none is counted. -/
def Obligations.IdleStepCountsClkin : Prop :=
  ∀ (s : State) (rest : List WireEvent), s.pending = [] →
    let u : State := { s with wire := rest }
    (∀ l, s.wire = .sckRises l :: rest → step s = .next (u.sckRise l)) ∧
    (s.wire = .sckFalls :: rest → step s = .next u.sckFall) ∧
    (∀ c, s.wire = .row c :: rest → step s = .next { u with pending := [c] }) ∧
    ((s.wire = [] ∧ rest = []) ∨ s.wire = .period :: rest →
      (s.resetHeld = true → step s = .next u) ∧
      (s.resetHeld = false → s.timebase.prescalerPhase + 1 < s.timebase.prescale.toNat →
        (s.anyDue = false → step s = .next { u with timebase :=
          { s.timebase with prescalerPhase := s.timebase.prescalerPhase + 1 } }) ∧
        (s.anyDue = true → RangesHold s → ∃ order : List Arrival,
          let t := ({ u with freeIndex := s.freeIndex + 1 } : State).takeArrivals order
          t.anyDue = false ∧ step s = .next { t with timebase :=
            { t.timebase with prescalerPhase := s.timebase.prescalerPhase + 1 } })) ∧
      (s.resetHeld = false → s.timebase.prescale.toNat ≤ s.timebase.prescalerPhase + 1 →
        step s = exec (.timebaseTick s.trig.pin) u))

/-- No command stops the part, and no command touches the commands that wait or the wire. -/
def Obligations.EveryCommandAnswers : Prop :=
  ∀ (c : Instr) (s : State),
    ∃ t, exec c s = .next t ∧ t.pending = s.pending ∧ t.wire = s.wire

/-! ### Invariants that every step keeps -/

/-- Every step keeps each cell and its job context in one of the stages of R98. -/
def Obligations.StepKeepsStages : Prop :=
  ∀ s t : State, StagesHold s → step s = .next t → StagesHold t

/-- Every step keeps the slots of the result queue accounted for (R98, R141 to R143): with the stages
of R98, the records and the reserved slots fit in 32, and the reserved slots are those the jobs
hold. -/
def Obligations.StepKeepsSlotsAccounted : Prop :=
  ∀ s t : State, StagesHold s → SlotsAccounted s → step s = .next t → SlotsAccounted t

/-- Every step keeps the sequence numbers of the result queue consecutive from head to tail, ending
before the next number (R144). -/
def Obligations.StepKeepsSequences : Prop :=
  ∀ s t : State, SequencesFollow s → step s = .next t → SequencesFollow t

/-- Every step keeps the scan sequencer's registers, the scan timer and the jobs in flight in
agreement (R60, R63, R66, R69, R73 to R75, R173, R175). -/
def Obligations.StepKeepsScanConsistent : Prop :=
  ∀ s t : State, ScanConsistent s → step s = .next t → ScanConsistent t

/-- Every step keeps profiles, channels, threshold, watermark, request queue, divider, periods, enabled
scan entries, the jobs' profile copies and the cells' orders in their ranges (R7, R26, R35, R38, R51,
R57, R80, R140, R169, R173). -/
def Obligations.StepKeepsRanges : Prop :=
  ∀ s t : State, RangesHold s → step s = .next t → RangesHold t

/-- Every step keeps every reading nonzero: samples, raw values, stored references and pairing
values, and a record carries a ratio only with status OK on a sensor channel (R18, R117, R132). -/
def Obligations.StepKeepsReadingsPositive : Prop :=
  ∀ s t : State, ReadingsPositive s → step s = .next t → ReadingsPositive t

/-- Every step keeps every window state record in agreement with its active entry: a pending count
below the qualify count, a pending class apart from the state, no state without a window
(R155, R161, R166). -/
def Obligations.StepKeepsWindowsFit : Prop :=
  ∀ s t : State, WindowsFit s → step s = .next t → WindowsFit t

/-- Every step keeps exactly the timers of its state running in each cell, a rest within 32 ticks,
and fewer than M samples done in an order (R3, R5, R17, R21, R23). -/
def Obligations.StepKeepsCellsTimed : Prop :=
  ∀ s t : State, CellsTimed s → step s = .next t → CellsTimed t

/-- Every step keeps the serial port in NO_FRAME while CS# is high and while RESET# is held low, its
direction that of its frame, no bit of a byte held between frames, and no data on SDO in a header or
a WRITE frame (R187, R188, R190, R199). -/
def Obligations.StepKeepsPortConsistent : Prop :=
  ∀ s t : State, PortConsistent s → step s = .next t → PortConsistent t

/-- The state after reset meets every invariant of the statements above. -/
def Obligations.ResetMeetsInvariants : Prop :=
  StagesHold State.reset ∧ SlotsAccounted State.reset ∧ SequencesFollow State.reset ∧
    ScanConsistent State.reset ∧ RangesHold State.reset ∧ ReadingsPositive State.reset ∧
    WindowsFit State.reset ∧ CellsTimed State.reset ∧ PortConsistent State.reset

/-! ### What only certain commands change -/

/-- The staging table does not change while a commit is pending (R59), and the active table changes
only by taking the staging table, with COMMIT_APPLIED raised (R60); DEVICE_RESET aside (R78). -/
def Obligations.TablesChangeOnlyByCommit : Prop :=
  ∀ (c : Instr) (s t : State), c ≠ .deviceReset → exec c s = .next t →
    (s.scan.commitPending = true → t.scan.staging = s.scan.staging) ∧
    (t.scan.active = s.scan.active ∨
      (t.scan.active = s.scan.staging ∧ t.raised .commitApplied = true))

/-- The cycle number changes only at a cycle start, by 1 with wrap, and a cycle starts only by a
scan timer expiry or a TRIG edge in WAITING or, by SCAN_ONCE, in STOPPED (R68). The resets, a code
written as a register byte and the timebase tick, which may take several arrivals, are the rows left
aside. -/
def Obligations.CycleNumberMovesAtCycleStarts : Prop :=
  ∀ (c : Instr) (s t : State),
    c ≠ .deviceReset → c ≠ .softReset → (∀ b, c ≠ .registerWrite b) →
    (∀ l, c ≠ .timebaseTick l) → exec c s = .next t →
      t.scan.cycle = s.scan.cycle ∨
      (t.scan.cycle = s.scan.cycle + 1 ∧
        ((s.scan.state = .waiting ∧ (c = .scanTimerExpiry ∨ c = .trigEdge)) ∨
          (s.scan.state = .stopped ∧ c = .scanOnce)))

/-- No conversion starts on a disabled channel, and none on a FAULTED one but the forced conversion
of the channel its request names (R101, R105, R106, R108): a cell that takes an order, at a dispatch
attempt or at the end of a rest, takes it for its job, on the job's channel or on the cell's
reference channel, which is enabled and, unless forced, not FAULTED. -/
def Obligations.ConversionsStartOnUsableChannels : Prop :=
  ∀ (k : CellId) (c : Instr) (s t : State) (o : Order),
    (c = .dispatchAttempt k ∨ c = .restExpiry k) → (s.cell k).order = none →
    exec c s = .next t → (t.cell k).order = some o →
      ∃ j, t.job k = some j ∧ (o.channel = j.channel ∨ o.channel = referenceChannel k) ∧
        (s.channel o.channel).enabled = true ∧
        ((s.channel o.channel).health ≠ .faulted ∨ (j.force = true ∧ o.channel = j.channel))

/-- The two cells work independently (chapter 1, R97): a crossing, an expiry or a dispatch attempt of
one cell leaves the other cell and the other cell's job as they are. -/
def Obligations.OtherCellUntouched : Prop :=
  ∀ (k : CellId) (c : Instr) (s t : State),
    c ∈ [Instr.upperCrossing k, .lowerCrossing k, .restExpiry k, .gateExpiry k,
      .prechargeExpiry k, .stallExpiry k, .periodOverflow k, .dispatchAttempt k] →
    exec c s = .next t → t.cell k.other = s.cell k.other ∧ t.job k.other = s.job k.other

/-! ### Commands of the cells and channels -/

/-- CELL_ENABLE (R4): a DOWN cell enters RESTING with the rest time of 32 ticks, a cell in any other
state is unchanged; a first argument byte that names no cell is refused. -/
def Obligations.CellEnableRestsADownCell : Prop :=
  ∀ (s : State) (c : CellId), s.atCommand = true →
    (s.arg 0 = cellNumber c → (s.cell c).state = .down →
      exec .cellEnable s = .next ((s.setCell c
        { s.cell c with state := .resting, phaseTimer := .down 32 }).reported
          0x10 .done 0 0 0 0)) ∧
    (s.arg 0 = cellNumber c → (s.cell c).state ≠ .down →
      exec .cellEnable s = .next (s.reported 0x10 .done 0 0 0 0)) ∧
    (1 < (s.arg 0).toNat → exec .cellEnable s = .next (s.reported 0x10 .badParameter 0 0 0 0))

/-- CELL_DISABLE (R6, R73 to R76, R113, R129, R143): the cell is DOWN with everything at its reset value
but the level, its job ends in an ABORTED record, its due entries go, its four reference records are
invalid; the other cell, its job and its records, the channel table and the queued requests stay. An
unused report reservation is released, an opportunity for the other cell. The end of a scan job is
handed on, and with or without one the completion check follows. A first argument byte that names no
cell is refused. -/
def Obligations.CellDisableEndsEverythingOfTheCell : Prop :=
  (∀ s : State, s.atCommand = true → 1 < (s.arg 0).toNat →
    exec .cellDisable s = .next (s.reported 0x11 .badParameter 0 0 0 0)) ∧
  ∀ (s : State) (c : CellId), s.atCommand = true → s.arg 0 = cellNumber c →
    let due := s.scan.due.filter fun i => match (s.scan.active[i]).parameters with
      | some (ch, _, _) => decide (cellOf ch ≠ c)
      | none => true
    let u := s.setScan { s.scan with due := due }
    ∃ t, exec .cellDisable s = .next t ∧
      SettingsKept (s.reported 0x11 .done 0 0 0 0) t ∧
      t.cell c = Cell.reset (s.cell c).level ∧ t.cell c.other = s.cell c.other ∧
      t.job c = none ∧ t.job c.other = s.job c.other ∧
      (∀ p, t.reference c p = ReferenceRecord.invalid) ∧
      (∀ p, t.reference c.other p = s.reference c.other p) ∧
      t.scan.due = due ∧ t.opportunity c = false ∧
      t.channels = s.channels ∧ t.requests = s.requests ∧
      (s.job c = none → t.results = s.results ∧ CompletionChecked u t ∧
        t.opportunity c.other = s.opportunity c.other) ∧
      (∀ j, s.job c = some j →
        let r := j.endRecord .aborted s.timebase.counter
        t.results.reserved = s.results.reserved - (if j.slots = 2 then 2 else 1) ∧
        t.results.nextSequence = s.results.nextSequence + 1 ∧
        t.opportunity c.other =
          (s.opportunity c.other || (decide (j.slots = 2) && s.idleFree c.other)) ∧
        (∀ tag, j.origin = .request tag →
          t.results.records =
            s.results.records ++ [{ r with sequence := s.results.nextSequence }] ∧
          CompletionChecked (u.raise .requestDone) t) ∧
        (∀ i n, j.origin = .scan i n →
          let seen := u.monitor i r
          t.results.records =
            s.results.records ++ [{ seen.1 with sequence := s.results.nextSequence }] ∧
          CompletionChecked { seen.2 with scan :=
            { u.scan with jobsInFlight := u.scan.jobsInFlight - 1 } } t))

/-- CHANNEL_SET and CHANNEL_CLEAR_FAULT (R38, R44 to R46). The first gives the enabled field the value
and moves nothing else of the record; a reference channel going from enabled to disabled invalidates
its cell's four records; a channel that becomes available hands an opportunity to its cell. The
second makes the channel GOOD without stalls or level; an enabled channel taken out of FAULTED hands
on an opportunity. Channel numbers above 9 and an enable above 1 are refused. -/
def Obligations.ChannelCommandsHandOn : Prop :=
  (∀ (s : State) (ch : Fin 10) (e : Bool), s.atCommand = true →
    s.arg 0 = BitVec.ofNat 8 ch.val → s.arg 1 = flagByte e →
    let r := s.channel ch
    let u := s.setChannel ch { r with enabled := e }
    let report := fun x : State =>
      x.reported 0x18 .done (s.arg 0) (flagByte r.enabled) (flagByte e) r.health.code
    (r.enabled = true → e = false → 8 ≤ ch.val →
      exec .channelSet s = .next (report (u.invalidateCell (cellOf ch)))) ∧
    (r.enabled = true → e = false → ch.val < 8 → exec .channelSet s = .next (report u)) ∧
    (r.enabled = false → e = true → r.health ≠ .faulted →
      exec .channelSet s = .next (report (u.offer (cellOf ch)))) ∧
    (r.enabled = false → e = true → r.health = .faulted →
      exec .channelSet s = .next (report u)) ∧
    (r.enabled = e → exec .channelSet s = .next (report s))) ∧
  (∀ (s : State), s.atCommand = true →
    (∀ ch : Fin 10, s.arg 0 = BitVec.ofNat 8 ch.val →
      let r := s.channel ch
      let u := s.setChannel ch { r with health := .good, stalls := 0, lastLevel := none }
      exec .channelClearFault s = .next
        ((if r.health = .faulted ∧ r.enabled = true then u.offer (cellOf ch) else u).reported
          0x19 .done (s.arg 0) r.health.code (BitVec.ofNat 8 r.stalls) 0)) ∧
    (9 < (s.arg 0).toNat →
      exec .channelClearFault s = .next (s.reported 0x19 .badParameter 0 0 0 0)) ∧
    (9 < (s.arg 0).toNat ∨ 1 < (s.arg 1).toNat →
      exec .channelSet s = .next (s.reported 0x18 .badParameter 0 0 0 0)))

/-- FAULT_THRESHOLD (R47): 1 to 7 are taken, 0 and values above 7 are refused; no channel is evaluated. -/
def Obligations.FaultThresholdIsTaken : Prop :=
  ∀ (s : State), s.atCommand = true →
    (1 ≤ (s.arg 0).toNat → (s.arg 0).toNat ≤ 7 →
      exec .faultThreshold s = .next
        (({ s with channels := { s.channels with threshold := (s.arg 0).toNat } }).reported
          0x1A .done (s.arg 0) (BitVec.ofNat 8 s.channels.threshold) 0 0)) ∧
    ((s.arg 0).toNat = 0 ∨ 7 < (s.arg 0).toNat →
      exec .faultThreshold s = .next (s.reported 0x1A .badParameter 0 0 0 0))

/-! ### Timebase and scan commands -/

/-- TIMEBASE_SET (R172): the prescale is checked before the divider, both before the state of the
part; taken, it restarts both phases and the confirming count and invalidates all eight records. -/
def Obligations.TimebaseSetRestartsOrIsRefused : Prop :=
  ∀ (s : State), s.atCommand = true →
    let cellBusy := ∃ c, (s.cell c).state ≠ .down ∧ (s.cell c).state ≠ .idle
    (s.arg 0 ∉ [1, 2, 4, 8] →
      exec .timebaseSet s = .next (s.reported 0x20 .badParameter 1 0 0 0)) ∧
    (s.arg 0 ∈ [1, 2, 4, 8] → s.arg12.toNat < 100 →
      exec .timebaseSet s = .next (s.reported 0x20 .badParameter 2 0 0 0)) ∧
    (s.arg 0 ∈ [1, 2, 4, 8] → 100 ≤ s.arg12.toNat →
      (cellBusy → s.scan.state = .stopped →
        exec .timebaseSet s = .next (s.reported 0x20 .busy 1 0 0 0)) ∧
      (¬ cellBusy → s.scan.state ≠ .stopped →
        exec .timebaseSet s = .next (s.reported 0x20 .busy 2 0 0 0)) ∧
      (cellBusy → s.scan.state ≠ .stopped →
        exec .timebaseSet s = .next (s.reported 0x20 .busy 3 0 0 0)) ∧
      (¬ cellBusy → s.scan.state = .stopped → ∀ p : Prescale, p.toNat = (s.arg 0).toNat →
        exec .timebaseSet s = .next
          (({ s with
              timebase := { s.timebase with
                prescale := p, divider := s.arg12, prescalerPhase := 0, intervalPhase := 0 }
              trig := { s.trig with confirming := 0 }
              references := ⟨ReferenceRecord.allInvalid, ReferenceRecord.allInvalid⟩ }).reported
            0x20 .done (s.arg 0) (s.arg 1) (s.arg 2)
              (BitVec.ofNat 8 (s.validCount .a + s.validCount .b)))))

/-- SCAN_CONFIG (R67, R175): in STOPPED source, edge and current period are taken; outside STOPPED the
period alone, as the pending one, when source and edge are those in force, and otherwise nothing. -/
def Obligations.ScanConfigHandsThePeriod : Prop :=
  ∀ (s : State), s.atCommand = true →
    (s.arg01 = 0 ∨ 1 < (s.arg 2).toNat ∨ 1 < (s.arg 3).toNat →
      exec .scanConfig s = .next (s.reported 0x28 .badParameter 0 0 0 0)) ∧
    (∀ (x : Source) (e : Edge), s.arg01 ≠ 0 → s.arg 2 = x.code → s.arg 3 = e.code →
      (s.scan.state = .stopped →
        exec .scanConfig s = .next
          (({ s with
              scan := { s.scan with source := x, edge := e }
              timer := { s.timer with period := s.arg01 } }).reported
            0x28 .done x.code e.code 0 0)) ∧
      (s.scan.state ≠ .stopped → x = s.scan.source → e = s.scan.edge →
        exec .scanConfig s = .next
          (({ s with timer := { s.timer with pendingPeriod := some s.arg01 } }).reported
            0x28 .done x.code e.code 0 0)) ∧
      (s.scan.state ≠ .stopped → (x ≠ s.scan.source ∨ e ≠ s.scan.edge) →
        exec .scanConfig s = .next (s.reported 0x28 .busy 0 0 0 0)))

/-- SCAN_START (R64, R174): STOPPED goes to WAITING with the overrun count and the mark cleared, and
the scan timer is started when the source is TIMER; any other state is BUSY. SCAN_STOP (R60, R66,
R173): in WAITING, and in CYCLE with no scan job in flight, STOPPED is reached, the timer stops and a
pending commit is applied; in CYCLE with jobs in flight the due list and the mark are cleared and the
state is STOPPING; in STOPPED and STOPPING nothing changes. -/
def Obligations.ScanStartWaitsAndScanStopStops : Prop :=
  (∀ (s : State), s.atCommand = true →
    let x := { s.scan with state := .waiting, overrun := 0, single := false }
    let report := fun u : State => u.reported 0x29 .done (byteOf s.scan.cycle.toNat 0)
      (byteOf s.scan.cycle.toNat 1) 0 0
    (s.scan.state = .stopped → s.scan.source = .timer →
      exec .scanStart s = .next (report { s with
        scan := x
        timer := { s.timer with running := true, remaining := s.timer.period.toNat } })) ∧
    (s.scan.state = .stopped → s.scan.source = .pin →
      exec .scanStart s = .next (report { s with scan := x })) ∧
    (s.scan.state ≠ .stopped → exec .scanStart s = .next (s.reported 0x29 .busy 0 0 0 0))) ∧
  (∀ (s : State), s.atCommand = true →
    let stopped := fun u : State =>
      let v : State := { u with
        scan := { u.scan with state := .stopped }
        timer := { u.timer with
          running := false, pendingPeriod := none
          period := u.timer.pendingPeriod.getD u.timer.period } }
      if u.scan.commitPending then v.applyCommit else v
    let emptied := s.setScan { s.scan with due := [], single := false }
    (s.scan.state = .waiting →
      exec .scanStop s = .next
        ((stopped s).reported 0x2B .done 0 0 (BitVec.ofNat 8 s.scan.jobsInFlight) 0)) ∧
    (s.scan.state = .cycle → s.scan.jobsInFlight = 0 →
      exec .scanStop s = .next
        ((stopped emptied).reported 0x2B .done 0 (BitVec.ofNat 8 s.scan.due.length) 0 0)) ∧
    (s.scan.state = .cycle → s.scan.jobsInFlight ≠ 0 →
      exec .scanStop s = .next
        (({ emptied with
            scan := { emptied.scan with state := .stopping }
            timer := { s.timer with running := false } }).reported 0x2B .done 3
          (BitVec.ofNat 8 s.scan.due.length) (BitVec.ofNat 8 s.scan.jobsInFlight) 0)) ∧
    (s.scan.state = .stopped ∨ s.scan.state = .stopping →
      exec .scanStop s = .next
        (s.reported 0x2B .done s.scan.state.code 0 (BitVec.ofNat 8 s.scan.jobsInFlight) 0)))

/-- SCAN_ONCE (R65, R68, R74): from STOPPED the cycle number rises by 1 and the due list is built. With
entries due the state is CYCLE with the mark set; with none the cycle completes at once, and the
state is STOPPED again with SCAN_DONE and SCAN_STOPPED raised. Both cells get an opportunity. -/
def Obligations.ScanOnceStartsOneCycle : Prop :=
  ∀ (s : State), ScanConsistent s → s.atCommand = true →
    let n := s.scan.cycle + 1
    (s.scan.state = .stopped → s.dueList n ≠ [] →
      exec .scanOnce s = .next
        ((s.setScan { s.scan with
            cycle := n, due := s.dueList n, state := .cycle, single := true }).offerBoth.reported
          0x2A .done (byteOf n.toNat 0) (byteOf n.toNat 1)
            (BitVec.ofNat 8 (s.dueList n).length) 0)) ∧
    (s.scan.state = .stopped → s.dueList n = [] →
      exec .scanOnce s = .next
        ((((s.setScan { s.scan with cycle := n }).offerBoth.raise .scanDone).raise
            .scanStopped).reported 0x2A .done (byteOf n.toNat 0) (byteOf n.toNat 1) 0 0)) ∧
    (s.scan.state ≠ .stopped → exec .scanOnce s = .next (s.reported 0x2A .busy 0 0 0 0))

/-! ### Scan table and profile commands -/

/-- ENTRY_WRITE and ENTRY_READ (R54, R55): a write puts the image's entry into staging unless a commit
is pending; a read puts the named entry into the image, and for the active table reports whether it
stands on the due list. -/
def Obligations.EntryCommandsCopyEntries : Prop :=
  ∀ (s : State), s.atCommand = true →
    (∀ i : Fin 16, s.arg 0 = BitVec.ofNat 8 i.val →
      (s.scan.commitPending = false →
        exec .entryWrite s = .next
          ((s.setScan { s.scan with
            staging := s.scan.staging.set i (entryOfImage s.scan.image) }).reported
              0x30 .done (s.arg 0) 0 0 0)) ∧
      (s.scan.commitPending = true →
        exec .entryWrite s = .next (s.reported 0x30 .frozen 0 0 0 0)) ∧
      (s.arg 1 = 0 →
        exec .entryRead s = .next
          ((s.setScan { s.scan with image := imageOfEntry s.scan.staging[i] }).reported
            0x31 .done (s.arg 0) 0 0 0)) ∧
      (s.arg 1 = 1 →
        exec .entryRead s = .next
          ((s.setScan { s.scan with image := imageOfEntry s.scan.active[i] }).reported
            0x31 .done (s.arg 0) 1 (if i ∈ s.scan.due then 1 else 0) 0))) ∧
    (15 < (s.arg 0).toNat →
      exec .entryWrite s = .next (s.reported 0x30 .badParameter 0 0 0 0)) ∧
    (15 < (s.arg 0).toNat ∨ 1 < (s.arg 1).toNat →
      exec .entryRead s = .next (s.reported 0x31 .badParameter 0 0 0 0))

/-- TABLE_REVERT (R56): the staging table takes the whole active table; FROZEN while a commit is
pending. Nothing else changes. -/
def Obligations.TableRevertCopiesActive : Prop :=
  ∀ (s : State), s.atCommand = true →
    (s.scan.commitPending = false →
      exec .tableRevert s = .next
        ((s.setScan { s.scan with staging := s.scan.active }).reported 0x32 .done 0 0 0 0)) ∧
    (s.scan.commitPending = true →
      exec .tableRevert s = .next (s.reported 0x32 .frozen 0 0 0 0))

/-- TABLE_COMMIT and COMMIT_APPLY (R57 to R60, R166): the first check that an enabled staging entry
fails, in index order, is reported and nothing changes. A table that passes is applied at once in
STOPPED and left pending in any other state. Applied, the active table takes the staging table, the
windows of the entries that changed return to UNKNOWN and leave the change set, the pending flag is
clear and COMMIT_APPLIED is raised. The row COMMIT_APPLY on its own acts on a commit pending in
STOPPED: the model's choice (log 15). -/
def Obligations.TableCommitChecksThenApplies : Prop :=
  ∀ (s : State),
    let u : State := { s with
      scan := { s.scan with active := s.scan.staging, commitPending := false }
      windows := {
        records := Vector.ofFn fun i =>
          if s.scan.staging[i] = s.scan.active[i] then s.windows.records[i]
          else WindowRecord.unknown
        changeSet := BitVec.ofFnLE fun i : Fin 16 =>
          s.windows.changeSet.getLsbD i.val && decide (s.scan.staging[i] = s.scan.active[i]) } }
    let applied := u.raise .commitApplied
    let count := BitVec.ofNat 8 (s.scan.staging.toList.countP (·.enabled))
    (s.scan.commitPending = true → s.scan.state = .stopped →
      exec .commitApply s = .next applied) ∧
    (s.atCommand = true → s.scan.commitPending = true →
      exec .tableCommit s = .next (s.reported 0x33 .frozen 0 0 0 0)) ∧
    (s.atCommand = true → s.scan.commitPending = false →
      (∀ (i : Fin 16) (n : Nat), (∀ k < i, (s.scan.staging[k]).failedCheck = none) →
        (s.scan.staging[i]).failedCheck = some n →
        exec .tableCommit s = .next
          (s.reported 0x33 .badParameter (BitVec.ofNat 8 i.val) (BitVec.ofNat 8 n) 0 0)) ∧
      ((∀ i : Fin 16, (s.scan.staging[i]).failedCheck = none) → s.scan.state = .stopped →
        exec .tableCommit s = .next (applied.reported 0x33 .done 0 count 0 0)) ∧
      ((∀ i : Fin 16, (s.scan.staging[i]).failedCheck = none) → s.scan.state ≠ .stopped →
        exec .tableCommit s = .next
          ((s.setScan { s.scan with commitPending := true }).reported 0x33 .done 1 count 0 0)))

/-- The checks of TABLE_COMMIT (R57): an entry passes when it is not enabled or every field is in its
range, the window's fields only when a window is present. The number of a failed check is that of
the first range that is missed, in the order of R57. -/
def Obligations.EntryChecksAreTheRanges : Prop :=
  ∀ e : ScanEntry,
    let inRange : Nat → Prop := fun n =>
      match n with
      | 1 => e.channel.toNat ≤ 9
      | 2 => e.profile.toNat ≤ 3
      | 3 => e.m.toNat ∈ [1, 2, 4, 8, 16]
      | 4 => 1 ≤ e.every.toNat
      | 5 => e.phase.toNat < e.every.toNat
      | 6 => ∀ w, e.window = some w → 1 ≤ w.qualify.toNat ∧ w.qualify.toNat ≤ 15
      | 7 => ∀ w, e.window = some w → w.low.toNat < w.high.toNat
      | _ => True
    (e.failedCheck = none ↔ (e.enabled = true → ∀ n, inRange n)) ∧
    (∀ n, e.failedCheck = some n →
      e.enabled = true ∧ 1 ≤ n ∧ n ≤ 7 ∧ ¬ inRange n ∧ ∀ k < n, inRange k)

/-- TABLE_ABANDON (R61): the pending flag is cleared and nothing else moves; with no commit pending
it is refused with NOT_PENDING. -/
def Obligations.TableAbandonClearsThePendingCommit : Prop :=
  ∀ (s : State), s.atCommand = true →
    (s.scan.commitPending = true →
      exec .tableAbandon s = .next
        ((s.setScan { s.scan with commitPending := false }).reported 0x34 .done 0 0 0 0)) ∧
    (s.scan.commitPending = false →
      exec .tableAbandon s = .next (s.reported 0x34 .notPending 0 0 0 0))

/-- PROFILE_WRITE (R28, R31 to R33, R128): the first image field out of its range is reported and
nothing changes. A passing image is taken into the profile with the next generation, the profile's
two reference records are invalidated, and jobs that hold a copy of it are marked superseded.
PROFILE_READ (R34): every byte of the image is overwritten with the profile and its generation.
Numbers above 3 are refused by both. -/
def Obligations.ProfileCommandsTakeAndShow : Prop :=
  (∀ (s : State), s.atCommand = true →
    let img := s.profiles.image
    (3 < (s.arg 0).toNat →
      exec .profileWrite s = .next (s.reported 0x38 .badParameter 0 0 0 0)) ∧
    (∀ p : Fin 4, s.arg 0 = BitVec.ofNat 8 p.val →
      (∀ n, 1 ≤ n → n ≤ 9 → (∀ k, 1 ≤ k → k < n → profileFieldInRange img k = true) →
        profileFieldInRange img n = false →
        exec .profileWrite s = .next
          (s.reported 0x38 .badParameter (BitVec.ofNat 8 n) 0 0 0)) ∧
      ((∀ n, 1 ≤ n → n ≤ 9 → profileFieldInRange img n = true) →
        ∃ t, exec .profileWrite s = .next t ∧
          t.profile p = profileOfImage img ((s.profile p).generation + 1) ∧
          (t.profile p).legal = true ∧
          (∀ q, q ≠ p → t.profile q = s.profile q) ∧ t.profiles.image = img ∧
          (∀ c, t.reference c p = ReferenceRecord.invalid) ∧
          (∀ c q, q ≠ p → t.reference c q = s.reference c q) ∧
          (∀ c, t.opportunity c = s.opportunity c ∧ t.job c = (s.job c).map fun j =>
            if j.profile = p then { j with superseded := true } else j) ∧
          t = { s.reported 0x38 .done (s.arg 0) ((s.profile p).generation + 1) 0 0 with
            profiles := t.profiles, references := t.references, dispatch := t.dispatch }))) ∧
  (∀ (s : State), s.atCommand = true →
    (∀ p : Fin 4, s.arg 0 = BitVec.ofNat 8 p.val →
      exec .profileRead s = .next
        (({ s with profiles := { s.profiles with image := imageOfProfile (s.profile p) } }).reported
          0x39 .done (s.arg 0) (s.profile p).generation 0 0)) ∧
    (3 < (s.arg 0).toNat →
      exec .profileRead s = .next (s.reported 0x39 .badParameter 0 0 0 0)))

/-- The images (R26, R202, R203): each field of an entry and of a profile at its byte, least significant
byte first, as a read into the image writes it and as a write from the image takes it; of byte 0 of an
entry image bits 0 to 2 are taken and the others ignored, and the window bytes of an entry without a
window read 0. Nothing is lost: an entry read into the image and written back is the same entry, and a
profile in range, read into the image, passes every check and is the same profile. -/
def Obligations.ImagesKeepEveryField : Prop :=
  let two := fun (b : Vector Byte 15) (k : Nat) (h : k + 1 < 15) =>
    (b[k]).toNat + 256 * (b[k + 1]).toNat
  let three := fun (b : Vector Byte 15) (k : Nat) (h : k + 2 < 15) =>
    (b[k]).toNat + 256 * (b[k + 1]).toNat + 65536 * (b[k + 2]).toNat
  (∀ e : ScanEntry, entryOfImage (imageOfEntry e) = e) ∧
  (∀ p : Profile, p.legal = true →
    profileFault (imageOfProfile p) = none ∧
      profileOfImage (imageOfProfile p) p.generation = p) ∧
  (∀ e : ScanEntry,
    let b := imageOfEntry e
    (b[0]).toNat = (if e.enabled then 1 else 0) + (if e.ratio then 2 else 0) +
      (if e.window = none then 0 else 4) ∧
    b[1] = e.channel ∧ b[2] = e.profile ∧ b[3] = e.m ∧ b[4] = e.every ∧ b[5] = e.phase ∧
    (e.window = none → ∀ k : Fin 15, 6 ≤ k.val → b[k] = 0) ∧
    (∀ w, e.window = some w →
      b[6] = w.qualify ∧ three b 7 (by decide) = w.low.toNat ∧
      three b 10 (by decide) = w.high.toNat ∧ two b 13 (by decide) = w.hysteresis.toNat)) ∧
  (∀ b : Vector Byte 15,
    let e := entryOfImage b
    e.enabled = (b[0]).getLsbD 0 ∧ e.ratio = (b[0]).getLsbD 1 ∧
    e.channel = b[1] ∧ e.profile = b[2] ∧ e.m = b[3] ∧ e.every = b[4] ∧ e.phase = b[5] ∧
    ((b[0]).getLsbD 2 = false → e.window = none) ∧
    ((b[0]).getLsbD 2 = true → ∃ w, e.window = some w ∧
      w.qualify = b[6] ∧ w.low.toNat = three b 7 (by decide) ∧
      w.high.toNat = three b 10 (by decide) ∧ w.hysteresis.toNat = two b 13 (by decide))) ∧
  (∀ p : Profile, p.legal = true →
    let b := imageOfProfile p
    (b[0]).toNat = (match p.method with | .count => 0 | .period => 1 | .slope => 2) ∧
    (b[1]).toNat = p.settle ∧ two b 2 (by decide) = p.cycles ∧ two b 4 (by decide) = p.gate ∧
    two b 6 (by decide) = p.precharge ∧ two b 8 (by decide) = p.stallLimit ∧
    two b 10 (by decide) = p.lifetime ∧ (b[12]).toNat = p.useLimit ∧
    (b[13]).toNat = (if p.reportReferences then 1 else 0) ∧ b[14] = p.generation) ∧
  (∀ (b : Vector Byte 15) (g : BitVec 8),
    let p := profileOfImage b g
    ((b[0]).toNat = 0 → p.method = .count) ∧ ((b[0]).toNat = 1 → p.method = .period) ∧
    ((b[0]).toNat = 2 → p.method = .slope) ∧
    p.settle = (b[1]).toNat ∧ p.cycles = two b 2 (by decide) ∧ p.gate = two b 4 (by decide) ∧
    p.precharge = two b 6 (by decide) ∧ p.stallLimit = two b 8 (by decide) ∧
    p.lifetime = two b 10 (by decide) ∧ p.useLimit = (b[12]).toNat ∧
    (p.reportReferences = true ↔ (b[13]).toNat = 1) ∧ p.generation = g)

/-! ### Reference cache and requests -/

/-- The commands that empty a block. REFERENCE_INVALIDATE (R127, R130): all eight records are invalid
and 0, and those that were valid are counted. REQUEST_FLUSH (R93): every queued record is removed and
counted; jobs in flight go on. RESULT_FLUSH (R147, R149): every record leaves, the reserved count and
the next number stay, the current mark is cleared, and both cells get an opportunity when a record
was removed. -/
def Obligations.FlushesEmptyTheirBlock : Prop :=
  (∀ (s : State), s.atCommand = true →
    let none4 : Vector ReferenceRecord 4 := Vector.replicate 4 ⟨false, 0, 0, 0, 0⟩
    exec .referenceInvalidate s = .next
      (({ s with references :=
          ⟨none4, none4⟩ }).reported
        0x3A .done (BitVec.ofNat 8 (s.validCount .a + s.validCount .b))
          (BitVec.ofNat 8 (s.validCount .a)) (BitVec.ofNat 8 (s.validCount .b)) 0)) ∧
  (∀ (s : State), s.atCommand = true →
    exec .requestFlush s = .next
      (({ s with requests := { s.requests with queue := [] } }).reported
        0x42 .done (BitVec.ofNat 8 s.requests.queue.length) 0 0 0)) ∧
  (∀ (s : State), s.atCommand = true →
    let u : State := { s with results := { s.results with records := [], current := false } }
    let report := fun x : State => x.reported 0x49 .done
      (BitVec.ofNat 8 s.results.records.length) (BitVec.ofNat 8 s.results.reserved) 0 0
    (s.results.records ≠ [] → exec .resultFlush s = .next (report u.offerBoth)) ∧
    (s.results.records = [] → exec .resultFlush s = .next (report u)))

/-- REQUEST_SUBMIT (R82 to R84): the channel, the profile and M are checked in this order, then the
channel's record, then the queue; a request that passes joins the tail and hands its cell an
opportunity. -/
def Obligations.RequestSubmitJoinsTheTail : Prop :=
  ∀ (s : State), s.atCommand = true →
    let img := s.requests.image
    (9 < (img[1]).toNat →
      exec .requestSubmit s = .next (s.reported 0x40 .badParameter 1 0 0 0)) ∧
    ((img[1]).toNat ≤ 9 → 3 < (img[2]).toNat →
      exec .requestSubmit s = .next (s.reported 0x40 .badParameter 2 0 0 0)) ∧
    ((img[1]).toNat ≤ 9 → (img[2]).toNat ≤ 3 → (img[3]).toNat ∉ [1, 2, 4, 8, 16] →
      exec .requestSubmit s = .next (s.reported 0x40 .badParameter 3 0 0 0)) ∧
    (∀ (ch : Fin 10) (p : Fin 4) (m : Averaging), (img[1]).toNat = ch.val →
      (img[2]).toNat = p.val → (img[3]).toNat = m.toNat →
      let k := s.channel ch
      let force := (img[4]).getLsbD 1
      (k.enabled = false ∨ (k.health = .faulted ∧ force = false) →
        exec .requestSubmit s = .next
          (s.reported 0x40 .unavailable img[1] (flagByte k.enabled) k.health.code 0)) ∧
      (k.enabled = true → (k.health ≠ .faulted ∨ force = true) →
        (8 ≤ s.requests.queue.length →
          exec .requestSubmit s = .next (s.reported 0x40 .queueFull 8 0 0 0)) ∧
        (s.requests.queue.length < 8 →
          exec .requestSubmit s = .next
            ((({ s with requests := { s.requests with
                  queue := s.requests.queue ++
                    [{ tag := img[0], channel := ch, profile := p, m := m,
                       ratio := (img[4]).getLsbD 0, force := force }] } } : State).offer
                (cellOf ch)).reported 0x40 .done
              (BitVec.ofNat 8 (s.requests.queue.length + 1)) img[0]
              (BitVec.ofNat 8
                (s.requests.queue.countP (fun r => decide (cellOf r.channel = cellOf ch)) + 1))
              0))))

/-- REQUEST_CANCEL (R89, R90, R24, R112): queued records with the tag are removed and the rest keep
their order; each cell's request job with the tag ends in a CANCELLED record with the next sequence
number, its order ending in a full rest and a rest going on; nothing else of a cell moves, and neither
channel table nor reference cache does. The slots of the jobs leave the reserved count, an unused
report reservation first, which is an opportunity for the other cell. With two jobs, the order of the
two records is the model's free value (log 17), and that the settle count remaining keeps its value is
the model's choice (log 20). -/
def Obligations.RequestCancelReachesQueueAndJobs : Prop :=
  ∀ (s : State), s.atCommand = true →
    let tag := s.arg 0
    let kept := s.requests.queue.filter fun r => decide (r.tag ≠ tag)
    let reached := fun c : CellId => (s.job c).any fun j => decide (j.origin = .request tag)
    let number := [CellId.a, CellId.b].countP reached
    let held := fun c : CellId => match s.job c with
      | none => 0
      | some j => if reached c = true then (if j.slots = 2 then 2 else 1) else 0
    ∃ t, exec .requestCancel s = .next t ∧
      t.requests = { s.requests with queue := kept } ∧
      SettingsKept (s.reported 0x41 .done (BitVec.ofNat 8 (s.requests.queue.length - kept.length))
        (BitVec.ofNat 8 number) (BitVec.ofNat 8 kept.length) 0) t ∧
      t.channels = s.channels ∧ t.references = s.references ∧ t.scan = s.scan ∧
      t.windows = s.windows ∧ t.timer = s.timer ∧
      (∀ c, reached c = false → t.cell c = s.cell c ∧ t.job c = s.job c) ∧
      (∀ c, reached c = true → t.job c = none ∧
        ((s.cell c).state.converting = true →
          t.cell c = { s.cell c with
            state := .resting, order := none, phaseTimer := .down 32, stallTimer := none,
            crossings := 0, accumulator := 0, samplesDone := 0, referenceTaken := false }) ∧
        ((s.cell c).state.converting = false → t.cell c = s.cell c)) ∧
      (∀ c, reached c = false → t.opportunity c = (s.opportunity c ||
        (reached c.other && (s.job c.other).any (fun j => decide (j.slots = 2)) &&
          s.idleFree c))) ∧
      t.results.nextSequence = s.results.nextSequence + BitVec.ofNat 16 number ∧
      t.results.reserved = s.results.reserved - (held .a + held .b) ∧
      (∃ new, t.results.records = s.results.records ++ new ∧ new.length = number ∧
        (∀ n (h : n < new.length),
          (new[n]).sequence = s.results.nextSequence + BitVec.ofNat 16 n) ∧
        (∀ r ∈ new, r.status = .cancelled ∧ r.kind = .request ∧ r.sourceId = tag ∧
          r.samples = 0 ∧ r.raw = none ∧ r.ratio = none ∧ r.cycle = none ∧
          r.transition = none ∧ r.stallLevel = none ∧ r.timestamp = s.timebase.counter) ∧
        (∀ c j, s.job c = some j → reached c = true →
          ∃ r ∈ new, r.channel = j.channel ∧ r.profile = j.profile ∧ r.refreshed = j.refreshed)) ∧
      t.events = (if number = 0 then s else s.raise .requestDone).events

/-! ### Results, windows and events -/

/-- RESULT_POP (R147, R148): the head record leaves, its number, the current mark as it was and the
count left are reported, the mark is cleared, and both cells get an opportunity; an empty queue is
refused with EMPTY. RESULT_WATERMARK (R150, R151): 1 to 32 are taken, 0 and values above 32 are
refused, and the RESULT condition is judged at once against the new watermark. -/
def Obligations.ResultPopAndWatermark : Prop :=
  (∀ (s : State), s.atCommand = true →
    (∀ (r : Record) (rest : List Record), s.results.records = r :: rest →
      exec .resultPop s = .next
        ((({ s with results := { s.results with
              records := rest, current := false } }).offerBoth).reported 0x48 .done
          (byteOf r.sequence.toNat 0) (byteOf r.sequence.toNat 1)
          (flagByte s.results.current) (BitVec.ofNat 8 rest.length))) ∧
    (s.results.records = [] →
      exec .resultPop s = .next (s.reported 0x48 .empty 0 0 0 0))) ∧
  (∀ (s : State), s.atCommand = true →
    (1 ≤ (s.arg 0).toNat → (s.arg 0).toNat ≤ 32 →
      ∃ t, exec .resultWatermark s = .next t ∧
        t = (({ s with results := { s.results with watermark := (s.arg 0).toNat } }).reported
          0x4A .done (s.arg 0) (BitVec.ofNat 8 s.results.watermark)
            (BitVec.ofNat 8 s.results.records.length) 0) ∧
        (t.resultActive = true ↔ (s.arg 0).toNat ≤ s.results.records.length)) ∧
    ((s.arg 0).toNat = 0 ∨ 32 < (s.arg 0).toNat →
      exec .resultWatermark s = .next (s.reported 0x4A .badParameter 0 0 0 0)))

/-- WINDOW_ACK (R164, R165): the named indexes leave the change set, no window state record moves, the
set before and after is reported, and WINDOW follows the set. -/
def Obligations.WindowAckRemovesNamedIndexes : Prop :=
  ∀ (s : State), s.atCommand = true →
    ∃ (set : BitVec 16) (t : State), exec .windowAck s = .next t ∧
      (∀ i : Fin 16, set.getLsbD i.val =
        (s.windows.changeSet.getLsbD i.val && !(s.arg01.getLsbD i.val))) ∧
      t = ({ s with windows := { s.windows with changeSet := set } }).reported 0x50 .done
        (byteOf s.windows.changeSet.toNat 0) (byteOf s.windows.changeSet.toNat 1)
        (byteOf set.toNat 0) (byteOf set.toNat 1) ∧
      (t.windowActive = true ↔ ∃ i : Fin 16, set.getLsbD i.val = true)

/-- EVENT_ACK (R184): the flags of the named latched events are cleared and no other; the overrun
count is 0 when SCAN_OVERRUN is named; flags before, flags after and the count are reported; the
level conditions stay and IRQ# follows the flags. -/
def Obligations.EventAckClearsNamedFlags : Prop :=
  ∀ (s : State), s.atCommand = true →
    ∃ (flags : BitVec 6) (t : State), exec .eventAck s = .next t ∧
      (∀ n : Fin 6, flags.getLsbD n.val =
        (s.events.flags.getLsbD n.val && !((s.arg 0).getLsbD n.val))) ∧
      t = ({ s with
          events := { s.events with flags := flags }
          scan := { s.scan with
            overrun := if (s.arg 0).getLsbD 1 then 0 else s.scan.overrun } }).reported 0x51 .done
        (s.events.flags.setWidth 8) (flags.setWidth 8) s.scan.overrun 0 ∧
      t.resultActive = s.resultActive ∧ t.windowActive = s.windowActive ∧
      (t.irqLow = true ↔
        (∃ n : Fin 6, flags.getLsbD n.val = true ∧ s.events.enable.getLsbD n.val = true) ∨
        (s.resultActive = true ∧ s.events.enable.getLsbD 6 = true) ∨
        (s.windowActive = true ∧ s.events.enable.getLsbD 7 = true))

/-- The output pins. IRQ# (R178, R182, R183) is low exactly when some event is both active and enabled;
the flags byte shows event n at its place of weight 2 to the power n, RESULT at 6 and WINDOW at 7; a
raised event is active whatever the enable set. The capacitor pin and the channel pins (R2): a channel
pin that the order does not select floats, the selected one drives the opposite of the level in
STARTING and MEASURING, low in DISCHARGING, and floats in any other state. SDO (R187, R188) floats in
NO_FRAME, drives low in a header and a WRITE frame, and in a READ frame the level of the last falling
edge of SCK. -/
def Obligations.IrqLowIffActiveAndEnabled : Prop :=
  ∀ (s : State),
    (s.irqLow = true ↔
      ∃ n : Fin 8, s.activeEvents.getLsbD n.val = true ∧ s.events.enable.getLsbD n.val = true) ∧
    (∀ n : Fin 6, s.activeEvents.getLsbD n.val = s.events.flags.getLsbD n.val) ∧
    (s.activeEvents.getLsbD 6 = true ↔ s.results.watermark ≤ s.results.records.length) ∧
    (s.activeEvents.getLsbD 7 = true ↔ ∃ i : Fin 16, s.windows.changeSet.getLsbD i.val = true) ∧
    (∀ e f : LatchedEvent, (s.raise e).raised f = (decide (f = e) || s.raised f)) ∧
    (∀ c : CellId,
      let k := s.cell c
      (k.state = .resting ∨ k.state = .idle → k.capacitorPin = .low) ∧
      (k.state = .precharging → k.capacitorPin = .high) ∧
      (k.state = .down ∨ k.state = .starting ∨ k.state = .measuring ∨ k.state = .discharging →
        k.capacitorPin = .floats)) ∧
    (∀ ch : Fin 10,
      let k := s.cell (cellOf ch)
      ((∀ o, k.order = some o → o.channel ≠ ch) → s.channelPin ch = .floats) ∧
      (∀ o, k.order = some o → o.channel = ch →
        (k.state = .starting ∨ k.state = .measuring →
          (k.level = .low → s.channelPin ch = .high) ∧
          (k.level = .high → s.channelPin ch = .low)) ∧
        (k.state = .discharging → s.channelPin ch = .low) ∧
        (k.state ≠ .starting → k.state ≠ .measuring → k.state ≠ .discharging →
          s.channelPin ch = .floats))) ∧
    (s.port.frame = .noFrame → s.sdo = .floats) ∧
    (s.port.frame = .header ∨ s.port.frame = .write → s.sdo = .low) ∧
    (s.port.frame = .read → s.port.sdo = .low → s.sdo = .low) ∧
    (s.port.frame = .read → s.port.sdo = .high → s.sdo = .high)

/-- SOFT_RESET (R198 and the rules it names): cells, jobs, queues, records, counts and flags return to
their reset values, the soft-reset fields of the scan, the timebase and the channels too; profiles,
tables, images, enables, threshold, watermark, timebase settings, source, edge and the frame stay. -/
def Obligations.SoftResetResetsEveryBlock : Prop :=
  ∀ (s : State), s.atCommand = true →
    ∃ t, exec .softReset s = .next t ∧
      (∀ c, t.cell c = Cell.reset (s.cell c).level ∧ t.job c = none ∧
        t.opportunity c = false) ∧
      t.profiles = s.profiles ∧
      t.channels.threshold = s.channels.threshold ∧
      (∀ ch, t.channel ch =
        { enabled := (s.channel ch).enabled, health := .good, stalls := 0, lastLevel := none }) ∧
      t.scan = { s.scan with
        state := .stopped, cycle := 0, overrun := 0, due := [], single := false,
        jobsInFlight := 0, commitPending := false } ∧
      t.requests = { s.requests with queue := [] } ∧
      (∀ c p, t.reference c p = ReferenceRecord.invalid) ∧
      t.results = { s.results with
        records := [], reserved := 0, nextSequence := 0, current := false } ∧
      t.windows = WindowMonitor.reset ∧
      t.timebase = { s.timebase with counter := 0, prescalerPhase := 0, intervalPhase := 0 } ∧
      t.timer = { s.timer with running := false, pendingPeriod := none } ∧
      t.trig = { s.trig with confirming := 0 } ∧
      t.events = { s.events with flags := 0 } ∧
      t.port = { s.port with shift := 0x5A, bitCount := 0, sckHigh := true } ∧
      t.command = { s.command with
        code := 0x5A, status := .done, result := #v[0, 0, 0, 0] } ∧
      t.resetHeld = s.resetHeld

/-! ### Serial port and resets -/

/-- The command decoder (R195, R196, R200): each code of the summary, completed as a byte at the command
location, is its command; any other code is refused with BAD_COMMAND and changes nothing. The model's
choice (log 1): where no byte can complete at the command location, a command changes nothing. -/
def Obligations.CodesNameCommands : Prop :=
  let summary : List (Byte × Instr) :=
    [(0x10, .cellEnable), (0x11, .cellDisable), (0x18, .channelSet), (0x19, .channelClearFault),
     (0x1A, .faultThreshold), (0x20, .timebaseSet), (0x28, .scanConfig), (0x29, .scanStart),
     (0x2A, .scanOnce), (0x2B, .scanStop), (0x30, .entryWrite), (0x31, .entryRead),
     (0x32, .tableRevert), (0x33, .tableCommit), (0x34, .tableAbandon), (0x38, .profileWrite),
     (0x39, .profileRead), (0x3A, .referenceInvalidate), (0x40, .requestSubmit),
     (0x41, .requestCancel), (0x42, .requestFlush), (0x48, .resultPop), (0x49, .resultFlush),
     (0x4A, .resultWatermark), (0x50, .windowAck), (0x51, .eventAck), (0x5A, .softReset)]
  ∀ s : State,
    (s.atCommand = true → ∀ p ∈ summary, exec (.registerWrite p.1) s = exec p.2 s) ∧
    (s.atCommand = true → ∀ b, b ∉ summary.map Prod.fst →
      exec (.badCommand b) s = .next (s.reported b .badCommand b 0 0 0) ∧
      exec (.registerWrite b) s = .next (s.reported b .badCommand b 0 0 0)) ∧
    (s.atCommand = false → ∀ p ∈ summary, exec p.2 s = .next s)

/-- Frames (R187, R188, R190, R199): a falling edge of CS# begins a header, but not while RESET# is held
low; a header byte gives the direction and the starting offset; a rising edge ends the frame in any
frame state, discarding a byte that is not complete. The read that the end of a header or of a byte of
a READ frame owes is taken first, since SCK idles low. Edges of SCK: in a frame the bits of a byte
come in most significant first, and with the eighth the byte is complete, as the rows HEADER and
REGISTER_WRITE give it, or the pointer of a READ frame moves on as R189 gives; away from a frame SCK
is not noticed. That a row which its frame state or the level of CS# does not allow does nothing is
the model's choice (log 2), and so is that a row for a whole byte does nothing in the middle of one
(log 12). -/
def Obligations.FramesFollowCs : Prop :=
  (∀ (s : State),
    (s.port.csLow = false → s.resetHeld = false →
      exec .frameBegin s = .next { s with port :=
        { s.port with csLow := true, frame := .header, bitCount := 0, sdo := .low } }) ∧
    (s.port.csLow = false → s.resetHeld = true →
      exec .frameBegin s = .next { s with port := { s.port with csLow := true } }) ∧
    (∀ b : Byte, s.port.frame = .header → s.port.bitCount = 0 →
      exec (.header b) s = .next { s with port := { s.port with
        frame := if 128 ≤ b.toNat then .read else .write
        direction := if 128 ≤ b.toNat then .read else .write
        pointer := BitVec.ofNat 7 (b.toNat % 128), shift := b, bitCount := 0
        sckHigh := true } }) ∧
    (∀ b : Byte, s.port.frame ≠ .header ∨ s.port.bitCount ≠ 0 →
      exec (.header b) s = .next s) ∧
    (∀ b : Byte, s.port.frame ≠ .write ∨ s.port.bitCount ≠ 0 →
      exec (.registerWrite b) s = .next s ∧ exec (.eventEnableWrite b) s = .next s) ∧
    (s.port.csLow = true → exec .frameBegin s = .next s) ∧
    (s.port.csLow = false → exec .frameEnd s = .next s) ∧
    (s.port.loadDue = false → exec .intervalCounterLatch s = .next s ∧
      exec .resultSnapshotCopy s = .next s) ∧
    (s.port.csLow = true → s.port.loadDue = false → ∃ t, exec .frameEnd s = .next t ∧
      t = { s with port := { s.port with
        csLow := false, frame := .noFrame, bitCount := 0, sckHigh := false, sdo := t.port.sdo } }) ∧
    (s.port.csLow = true → s.port.loadDue = true → ∃ t, exec .frameEnd s = .next t ∧
      t = { s.loadByte with port := { s.loadByte.port with
        csLow := false, frame := .noFrame, bitCount := 0 } })) ∧
  (∀ (s : State) (b : Byte),
    let bits := [7, 6, 5, 4, 3, 2, 1, 0].map fun i => levelOf (b.getLsbD i)
    let clocked := bits.foldl (fun (u : State) l => u.sckFall.sckRise l) s
    s.port.bitCount = 0 →
      (s.port.frame = .header → exec (.header b) s = .next clocked) ∧
      (s.port.frame = .write → exec (.registerWrite b) s = .next clocked) ∧
      (s.port.frame = .read → s.port.sckHigh = false → clocked =
        { s with port := { s.port with
          shift := b, sckHigh := true, sdo := clocked.port.sdo
          pointer := if s.port.pointer ∈ [25, 15, 30, 127] then s.port.pointer
            else s.port.pointer + 1 } }) ∧
      (s.port.frame = .noFrame →
        clocked = { s with port := { s.port with sckHigh := true } }))

/-- Bytes of a WRITE frame away from the command location (R30, R181, R188, R189, R191): a byte at a
storage location is read back there and changes no other location; a byte anywhere else but the
event enable location changes no location; the enable location takes the byte whole, by either row,
and the row EVENT_ENABLE_WRITE acts nowhere else (the model's choice, log 16). The address pointer
then moves on by 1, and holds at 15, 30 and 127. -/
def Obligations.WrittenBytesReachOneLocation : Prop :=
  ∀ (s : State) (b : Byte), s.port.frame = .write → s.port.bitCount = 0 →
    let p := s.port.pointer
    let port := { s.port with
      shift := b, bitCount := 0, sckHigh := true
      pointer := if p = 15 ∨ p = 30 ∨ p = 127 then p else p + 1 }
    (p = 16 →
      exec (.eventEnableWrite b) s =
        .next { s with events := { s.events with enable := b }, port := port } ∧
      exec (.registerWrite b) s =
        .next { s with events := { s.events with enable := b }, port := port }) ∧
    (p ≠ 16 → exec (.eventEnableWrite b) s = .next s) ∧
    (p ≠ 16 → p ≠ 25 → ∃ t, exec (.registerWrite b) s = .next t ∧ t.port = port ∧
      let stores := (17 ≤ p.toNat ∧ p.toNat ≤ 24) ∨ (32 ≤ p.toNat ∧ p.toNat ≤ 60) ∨
        (62 ≤ p.toNat ∧ p.toNat ≤ 66)
      (stores → t.windowRead p.toNat = b) ∧
      (∀ q, q ≠ p.toNat → t.windowRead q = s.windowRead q) ∧
      (¬ stores → t = { s with port := port }) ∧
      t = { s with
        port := port
        command := { s.command with args := t.command.args }
        scan := { s.scan with image := t.scan.image }
        profiles := { s.profiles with image := t.profiles.image }
        requests := { s.requests with image := t.requests.image } })

/-- Reads (R145, R146, R171, R188, R189, R191 to R193): in a READ frame the falling edge of SCK after
the header, and after each complete byte, loads the byte at the address pointer, and its bits appear
on SDO at that edge and the next seven, most significant first. The load of offset 11 latches the
counter whole, and the load of offset 80 copies the head record, or the empty form, with the current
mark set exactly when a record stands at the head; these two loads are also the rows
INTERVAL_COUNTER_LATCH and RESULT_SNAPSHOT_COPY, which act only when their load is due (the model's
choice, log 11). Every other load changes the serial port alone. What the locations read as: the
status region, the latched counter, the events, the command unit, the images, the channel health
bytes, the window change set and the snapshot, each byte at its place, and 0 at an unassigned
location. A record's bytes (R201): each field at its place, absent fields 0. The codes of the record
status, the source kind and the command status (R137, R138, R196) are written out. -/
def Obligations.ReadsLatchAndCopy : Prop :=
  (∀ (s : State), s.port.frame = .read → s.port.bitCount = 0 → s.port.sckHigh = true →
    let p := s.port.pointer
    let port := fun b : Byte => { s.port with shift := b, sdo := levelOf b.msb, sckHigh := false }
    let latched : State := { s with
      timebase := { s.timebase with latch := s.timebase.counter }
      port := port (BitVec.ofNat 8 (s.timebase.counter.toNat % 256)) }
    (p = 11 → exec .intervalCounterLatch s = .next latched ∧ s.sckFall = latched) ∧
    (p ≠ 11 → exec .intervalCounterLatch s = .next s) ∧
    (p = 80 → ∀ (r : Record) (rest : List Record), s.results.records = r :: rest →
      let copied : State := { s with
        results := { s.results with snapshot := r.bytes, current := true }
        port := port r.status.code }
      exec .resultSnapshotCopy s = .next copied ∧ s.sckFall = copied) ∧
    (p = 80 → s.results.records = [] →
      let copied : State := { s with
        results := { s.results with snapshot := Vector.replicate 24 0, current := false }
        port := port 0 }
      exec .resultSnapshotCopy s = .next copied ∧ s.sckFall = copied) ∧
    (p ≠ 80 → exec .resultSnapshotCopy s = .next s) ∧
    (p ≠ 11 → p ≠ 80 → s.sckFall = { s with port := port (s.windowRead p.toNat) }) ∧
    (∀ sdi : List Level, sdi.length ≤ 7 →
      let clocked := sdi.foldl (fun (u : State) l => (u.sckRise l).sckFall) s.sckFall
      clocked.port.sdo = levelOf (s.sckFall.port.shift.getLsbD (7 - sdi.length)))) ∧
  (∀ (s : State),
    (s.windowRead 0).toNat = (match s.scan.state with
      | .stopped => 0 | .waiting => 1 | .cycle => 2 | .stopping => 3) ∧
    (s.windowRead 1).toNat + 256 * (s.windowRead 2).toNat = s.scan.cycle.toNat ∧
    s.windowRead 3 = s.scan.overrun ∧
    (∀ c : CellId, (s.windowRead (if c = .a then 4 else 5)).toNat = (match (s.cell c).state with
      | .down => 0 | .resting => 1 | .idle => 2 | .starting => 3 | .measuring => 4
      | .precharging => 5 | .discharging => 6)) ∧
    (s.requests.queue.length ≤ 8 → (s.windowRead 6).toNat = s.requests.queue.length) ∧
    (s.results.records.length ≤ 32 → (s.windowRead 7).toNat = s.results.records.length) ∧
    (s.results.reserved ≤ 4 → (s.windowRead 8).toNat = s.results.reserved) ∧
    (s.windowRead 9).toNat = (if s.scan.commitPending then 1 else 0) ∧
    (s.windowRead 11).toNat = s.timebase.counter.toNat % 256 ∧
    (s.windowRead 12).toNat + 256 * (s.windowRead 13).toNat + 65536 * (s.windowRead 14).toNat =
      s.timebase.latch.toNat / 256 ∧
    s.windowRead 15 = s.activeEvents ∧ s.windowRead 16 = s.events.enable ∧
    (∀ k : Fin 8, s.windowRead (17 + k.val) = s.command.args[k]) ∧
    s.windowRead 25 = s.command.code ∧
    (∀ k : Fin 4, s.windowRead (26 + k.val) = s.command.result[k]) ∧
    s.windowRead 30 = s.command.status.code ∧
    (∀ k : Fin 15, s.windowRead (32 + k.val) = s.scan.image[k] ∧
      s.windowRead (47 + k.val) = s.profiles.image[k]) ∧
    (∀ k : Fin 5, s.windowRead (62 + k.val) = s.requests.image[k]) ∧
    (∀ ch : Fin 10, (s.channel ch).stalls ≤ 7 →
      (s.windowRead (67 + ch.val)).toNat =
        (if (s.channel ch).enabled then 1 else 0) +
        2 * (match (s.channel ch).health with | .good => 0 | .suspect => 1 | .faulted => 2) +
        8 * (s.channel ch).stalls +
        64 * (match (s.channel ch).lastLevel with
          | none => 0 | some .low => 1 | some .high => 2)) ∧
    (∀ n : Fin 16, (s.windowRead (if n.val < 8 then 77 else 78)).getLsbD (n.val % 8) =
      s.windows.changeSet.getLsbD n.val) ∧
    (∀ k : Fin 24, 1 ≤ k.val → s.windowRead (80 + k.val) = s.results.snapshot[k]) ∧
    (∀ r rest, s.results.records = r :: rest → s.windowRead 80 = r.status.code) ∧
    (s.results.records = [] → s.windowRead 80 = 0) ∧
    (∀ n, n ∈ [10, 31, 79] ∨ 104 ≤ n → s.windowRead n = 0)) ∧
  (∀ (r : Record), r.samples ≤ 16 → (∀ v, r.raw = some v → v ≤ 16777215) →
    (∀ q, r.ratio = some q → q.reference ≤ 16777215 ∧ q.ratio ≤ 16777215) →
    let b := r.bytes
    let three := fun (k : Nat) (h : k + 2 < 24) =>
      (b[k]).toNat + 256 * (b[k + 1]).toNat + 65536 * (b[k + 2]).toNat
    b[0] = r.status.code ∧ b[1] = r.kind.code ∧ b[2] = r.sourceId ∧
    (b[3]).toNat = r.channel.val + 16 * r.profile.val ∧ (b[4]).toNat = r.samples ∧
    (b[5]).getLsbD 0 = r.raw.isSome ∧ (b[5]).getLsbD 1 = r.ratio.isSome ∧
    (b[5]).getLsbD 2 = r.ratio.isSome ∧ (b[5]).getLsbD 3 = r.cycle.isSome ∧
    (b[5]).getLsbD 4 = r.ratio.any (·.saturated) ∧ (b[5]).getLsbD 5 = r.refreshed ∧
    (b[5]).getLsbD 6 = r.transition.isSome ∧
    (b[5]).getLsbD 7 = decide (r.stallLevel = some .high) ∧
    (b[6]).toNat = (match r.transition with
      | none => 0 | some .inside => 1 | some .above => 2 | some .below => 3) ∧
    (b[7]).toNat + 256 * (b[8]).toNat = r.sequence.toNat ∧
    (b[9]).toNat + 256 * (b[10]).toNat = (r.cycle.getD 0).toNat ∧
    three 11 (by decide) = r.raw.getD 0 ∧
    three 14 (by decide) = (match r.ratio with | some q => q.reference | none => 0) ∧
    three 17 (by decide) = (match r.ratio with | some q => q.ratio | none => 0) ∧
    three 20 (by decide) + 16777216 * (b[23]).toNat = r.timestamp.toNat) ∧
  (∀ x : RecordStatus, x.code.toNat = (match x with
    | .ok => 1 | .overrange => 2 | .underrange => 3 | .stall => 4 | .refFailed => 5
    | .unavailable => 6 | .cancelled => 7 | .aborted => 8)) ∧
  (∀ x : SourceKind, x.code.toNat = (match x with | .scan => 1 | .request => 2 | .reference => 3)) ∧
  (∀ x : CommandStatus, x.code.toNat = (match x with
    | .none => 0 | .done => 1 | .badCommand => 2 | .badParameter => 3 | .busy => 4
    | .queueFull => 5 | .empty => 6 | .unavailable => 7 | .frozen => 8 | .notPending => 9))

/-- DEVICE_RESET and RESET_RELEASE (R3, R25 to R27, R30, R38, R50, R52, R78, R81, R96, R114, R135, R154,
R168, R177, R186, R194, R196, R199): every block takes its device-reset values, written out here. The
levels the pins give stay (logs 8 and 10). The shift register, the direction, the level for SDO and the
scan timer's remaining count take values that are the model's choice (log 9). The release lets ticks
and frames begin again. -/
def Obligations.DeviceResetSetsEveryBlock : Prop :=
  ∀ (s : State),
    let entry : ScanEntry :=
      { enabled := false, ratio := false, channel := 0, profile := 0, m := 1, every := 1,
        phase := 0, window := none }
    (∃ t, exec .deviceReset s = .next t ∧
      (∀ c, t.cell c =
          { state := .down, order := none, phaseTimer := .stopped, stallTimer := none,
            crossings := 0, settleLeft := 0, accumulator := 0, samplesDone := 0,
            level := (s.cell c).level, referenceTaken := false } ∧
        t.job c = none ∧ t.opportunity c = false) ∧
      (∀ q, t.profile q = { method := .period, settle := 2, cycles := 16, gate := 10,
                            precharge := 1000, stallLimit := 1024, lifetime := 1000, useLimit := 8,
                            reportReferences := false, generation := 0 }) ∧
      t.profiles.image = #v[1, 2, 16, 0, 10, 0, 232, 3, 0, 4, 232, 3, 8, 0, 0] ∧
      (∀ ch, t.channel ch =
        { enabled := true, health := .good, stalls := 0, lastLevel := none }) ∧
      t.channels.threshold = 3 ∧
      (∀ i : Fin 16, t.scan.staging[i] = entry ∧ t.scan.active[i] = entry) ∧
      t.scan = { staging := t.scan.staging, active := t.scan.active,
                 image := #v[0, 0, 0, 1, 1, 0, 0, 0, 0, 0, 0, 0, 0, 0, 0], state := .stopped,
                 single := false, cycle := 0, overrun := 0, commitPending := false, due := [],
                 jobsInFlight := 0, source := .timer, edge := .rising } ∧
      t.requests = { queue := [], image := #v[0, 0, 0, 1, 0] } ∧
      (∀ c q, t.reference c q =
        { valid := false, raw := 0, stamp := 0, uses := 0, generation := 0 }) ∧
      t.results = { records := [], reserved := 0, nextSequence := 0, watermark := 1,
                    snapshot := Vector.replicate 24 0, current := false } ∧
      (∀ i : Fin 16, t.windows.records[i] = { state := none, pending := none, count := 0 }) ∧
      t.windows.changeSet = 0 ∧
      t.timebase = { prescale := .p1, divider := 1000, prescalerPhase := 0, intervalPhase := 0,
                     counter := 0, latch := 0 } ∧
      t.timer = { running := false, remaining := 0, period := 1000, pendingPeriod := none } ∧
      t.trig.confirming = 0 ∧ t.trig.firstSample = true ∧ t.trig.pin = s.trig.pin ∧
      t.events = { flags := 0, enable := 0 } ∧
      t.port = { frame := .noFrame, bitCount := 0, shift := 0, direction := .write, pointer := 0,
                 csLow := s.port.csLow, sckHigh := s.port.sckHigh, sdo := .low } ∧
      t.command = { args := #v[0, 0, 0, 0, 0, 0, 0, 0], code := 0, status := .none,
                    result := #v[0, 0, 0, 0] } ∧
      t.resetHeld = true) ∧
    exec .resetRelease s = .next { s with resetHeld := false }

/-! ### Ticks and cycle starts -/

/-- A timebase tick with nothing left due counts both cells' timers, the interval phase and the TRIG
sample (R13, R15, R16, R21, R169, R176); an interval tick comes when the interval phase reaches the
divider, and counts the interval counter and a running scan timer (R169, R170, R174). While RESET#
is held low no tick of either kind occurs (R169). That the row is a whole tick at any prescaler
phase, which it leaves at 0, is the model's choice (log 5), and so is that the first timebase tick
after a reset counts in the first interval (log 25). That an arrival waits at its end value until it
is taken is the model's choice (log 7), and so is that a timebase tick first takes, in some order,
the arrivals that are due, until none is (log 3). -/
def Obligations.TicksCount : Prop :=
  ∀ (s : State),
    (s.resetHeld = true → ∀ l, exec (.timebaseTick l) s = .next s) ∧
    (s.resetHeld = false → s.anyDue = false → ∀ l, ∃ t, exec (.timebaseTick l) s = .next t ∧
      t = { s with
        cells := t.cells, trig := t.trig
        timebase := { s.timebase with
          prescalerPhase := 0, intervalPhase := s.timebase.intervalPhase + 1 } } ∧
      (∀ c, t.cell c = { s.cell c with
        stallTimer := (s.cell c).stallTimer.map (· + 1), phaseTimer := (t.cell c).phaseTimer }) ∧
      (∀ c, ((s.cell c).phaseTimer = .stopped → (t.cell c).phaseTimer = .stopped) ∧
        (∀ n, (s.cell c).phaseTimer = .up n → (t.cell c).phaseTimer = .up (n + 1)) ∧
        (∀ n, (s.cell c).phaseTimer = .down (n + 1) → (t.cell c).phaseTimer = .down n)) ∧
      t.trig.pin = l ∧ t.trig.firstSample = false ∧
      (s.trig.firstSample = true → t.trig.filtered = l ∧ t.trig.confirming = 0) ∧
      (s.trig.firstSample = false → t.trig.filtered = s.trig.filtered) ∧
      (s.trig.firstSample = false → l = s.trig.filtered → t.trig.confirming = 0) ∧
      (s.trig.firstSample = false → l ≠ s.trig.filtered → s.trig.confirming ≤ 1 →
        t.trig.confirming = s.trig.confirming + 1)) ∧
    (s.resetHeld = false → RangesHold s → s.anyDue = true → ∀ l, ∃ order : List Arrival,
      let t := ({ s with freeIndex := s.freeIndex + 1 } : State).takeArrivals order
      t.anyDue = false ∧ exec (.timebaseTick l) s = exec (.timebaseTick l) t) ∧
    (s.resetHeld = true → exec .intervalTick s = .next s) ∧
    (s.resetHeld = false → s.timebase.intervalPhase = s.timebase.divider.toNat →
      exec .intervalTick s = .next { s with
        timebase := { s.timebase with
          intervalPhase := 0, counter := s.timebase.counter + 1 }
        timer := { s.timer with remaining :=
          if s.timer.running then s.timer.remaining - 1 else s.timer.remaining } })

/-- The scan timer's expiry and the TRIG edge (R174, R176): the timer reloads, with the pending period
if there is one, and delivers a cycle-start event; a confirmed edge changes the filtered level, and
delivers the event when the source is PIN, the edge is the selected one and the scan is not STOPPED.
The event (R68 to R71, R74): in WAITING a pending commit is applied, the cycle number rises by 1 with
wrap, the due list is built, both cells get an opportunity, and a cycle with nothing due completes at
once; in CYCLE the overrun count rises to at most 255 and SCAN_OVERRUN is raised; in STOPPING and
STOPPED nothing happens. That an expiry and an edge wait at their end values until they are taken is
the model's choice (log 7). -/
def Obligations.CycleStartsByTimerAndEdge : Prop :=
  (∀ (s : State),
    (s.timer.running = true → s.timer.remaining = 0 →
      (s.timer.pendingPeriod = none →
        exec .scanTimerExpiry s = .next ({ s with timer :=
          { s.timer with remaining := s.timer.period.toNat } }).cycleStartEvent) ∧
      (∀ p, s.timer.pendingPeriod = some p →
        exec .scanTimerExpiry s = .next ({ s with timer :=
          { s.timer with
            remaining := p.toNat, period := p, pendingPeriod := none } }).cycleStartEvent)) ∧
    (s.trig.confirming = 2 →
      let u : State := { s with trig := { s.trig with
        filtered := s.trig.filtered.flip, confirming := 0 } }
      let edge : Edge := if s.trig.filtered = .low then .rising else .falling
      (s.scan.source = .pin → s.scan.edge = edge → s.scan.state ≠ .stopped →
        exec .trigEdge s = .next u.cycleStartEvent) ∧
      (s.scan.source = .timer ∨ s.scan.edge ≠ edge ∨ s.scan.state = .stopped →
        exec .trigEdge s = .next u))) ∧
  (∀ (s : State), ScanConsistent s →
    (s.scan.state = .waiting →
      let u := if s.scan.commitPending then s.applyCommit else s
      let n := s.scan.cycle + 1
      (u.dueList n ≠ [] →
        s.cycleStartEvent = (u.setScan { u.scan with
          cycle := n, due := u.dueList n, state := .cycle }).offerBoth) ∧
      (u.dueList n = [] →
        s.cycleStartEvent =
          (u.setScan { u.scan with cycle := n }).offerBoth.raise .scanDone)) ∧
    (s.scan.state = .cycle →
      ∃ n : BitVec 8, n.toNat = min 255 (s.scan.overrun.toNat + 1) ∧
        s.cycleStartEvent = (s.setScan { s.scan with overrun := n }).raise .scanOverrun) ∧
    (s.scan.state = .stopping ∨ s.scan.state = .stopped → s.cycleStartEvent = s))

/-- The due list of a cycle (R69): with the active entries in range, an entry is on it exactly when it
is enabled, the cycle number divided by its every leaves its phase, its channel is enabled and not
FAULTED, and its channel's cell is not DOWN; indexes rise, so none stands twice. -/
def Obligations.DueListHoldsTheDueEntries : Prop :=
  ∀ (s : State) (n : BitVec 16), RangesHold s →
    (s.dueList n).Pairwise (· < ·) ∧
    ∀ (i : Fin 16), i ∈ s.dueList n ↔
      let e := s.scan.active[i]
      e.enabled = true ∧ n.toNat % e.every.toNat = e.phase.toNat ∧
        ∃ ch : Fin 10, ch.val = e.channel.toNat ∧ (s.channel ch).enabled = true ∧
          (s.channel ch).health ≠ .faulted ∧ (s.cell (cellOf ch)).state ≠ .down

/-! ### Conversion cells -/

/-- Crossings by level (R1, R9, R21): an upper crossing raises a LOW level, and in STARTING and
MEASURING restarts the stall timer; in DOWN, RESTING, IDLE and PRECHARGING a lower crossing changes
the level and nothing more. A crossing toward the level the input already shows does not occur
(log 2). Settle (R8, R9, R11, R13): the first lower crossing in STARTING is the reference point, and
the S-th after it ends settle, the reference point itself when S is 0. Settle ends in MEASURING with
the first sample begun: a gate of G interval ticks open under COUNT, the tick count at 0 under
PERIOD. -/
def Obligations.CrossingsTurnTheLevelAndSettle : Prop :=
  (∀ (s : State) (c : CellId),
    let k := s.cell c
    (k.level = .low → k.state = .starting ∨ k.state = .measuring →
      exec (.upperCrossing c) s =
        .next (s.setCell c { k with level := .high, stallTimer := some 0 })) ∧
    (k.level = .low → k.state ≠ .starting → k.state ≠ .measuring →
      exec (.upperCrossing c) s = .next (s.setCell c { k with level := .high })) ∧
    (k.level = .high → exec (.upperCrossing c) s = .next s) ∧
    (k.level = .high → k.state ∈ [CellState.down, .resting, .idle, .precharging] →
      exec (.lowerCrossing c) s = .next (s.setCell c { k with level := .low })) ∧
    (k.level = .low → exec (.lowerCrossing c) s = .next s)) ∧
  (∀ (s : State) (c : CellId) (o : Order),
    let k := s.cell c
    let begun := fun x : Cell => match o.method with
      | .count => { x with
          state := .measuring, crossings := 0
          phaseTimer := .down (o.gate * s.timebase.divider.toNat) }
      | _ => { x with state := .measuring, crossings := 0, phaseTimer := .up 0 }
    let turned := { k with level := .low, stallTimer := some 0 }
    k.level = .high → k.state = .starting → k.order = some o →
      (k.referenceTaken = false → k.settleLeft ≠ 0 →
        exec (.lowerCrossing c) s =
          .next (s.setCell c { turned with referenceTaken := true })) ∧
      (k.referenceTaken = false → k.settleLeft = 0 →
        exec (.lowerCrossing c) s =
          .next (s.setCell c (begun { turned with referenceTaken := true }))) ∧
      (k.referenceTaken = true → 1 < k.settleLeft →
        exec (.lowerCrossing c) s =
          .next (s.setCell c { turned with settleLeft := k.settleLeft - 1 })) ∧
      (k.referenceTaken = true → k.settleLeft = 1 →
        exec (.lowerCrossing c) s =
          .next (s.setCell c (begun { turned with settleLeft := 0 }))))

/-- Lower crossings that count and end samples (R11 to R13, R16 to R20): under COUNT a crossing in an
open gate is counted, the 65536th ends the order OVERRANGE, and one between gates opens the next
gate; under PERIOD the N-th ends the sample with its tick count, and under SLOPE the first one does;
a sample that is not the last begins the next, and the last ends the order OK with the sum divided
by M, remainder discarded. Where the N-th crossing under PERIOD is taken before the overflow of the
same tick, the raw value is 16777215, and that this tick counts in neither sample is the model's
choice (log 26). That no crossing ends a sample of 0 ticks is the model's choice (log 13). -/
def Obligations.LowerCrossingsEndSamples : Prop :=
  ∀ (s : State) (c : CellId) (o : Order),
    let k := s.cell c
    let turned := { k with level := .low, stallTimer := some 0 }
    let ends := fun out : Outcome =>
      (s.setCell c { k with level := .low }).deliver c o.channel out
    k.level = .high → k.order = some o →
      (k.state = .measuring → o.method = .count →
        (∀ n, k.phaseTimer = .down n →
          (k.crossings < 65535 →
            exec (.lowerCrossing c) s =
              .next (s.setCell c { turned with crossings := k.crossings + 1 })) ∧
          (k.crossings = 65535 →
            exec (.lowerCrossing c) s = .next (ends (.overrange k.samplesDone)))) ∧
        (k.phaseTimer = .stopped →
          exec (.lowerCrossing c) s = .next (s.setCell c { turned with
            crossings := 0, phaseTimer := .down (o.gate * s.timebase.divider.toNat) }))) ∧
      (k.state = .measuring → o.method = .period →
        (k.crossings + 1 < o.cycles →
          exec (.lowerCrossing c) s =
            .next (s.setCell c { turned with crossings := k.crossings + 1 })) ∧
        (∀ n raw, k.phaseTimer = .up n → o.cycles ≤ k.crossings + 1 →
          (1 ≤ n ∧ n ≤ 16777215 ∧ raw = n) ∨ (n = 16777216 ∧ raw = 16777215) →
          (k.samplesDone + 1 < o.m.toNat →
            exec (.lowerCrossing c) s = .next (s.setCell c { turned with
              crossings := 0, phaseTimer := .up 0, accumulator := k.accumulator + raw,
              samplesDone := k.samplesDone + 1 })) ∧
          (k.samplesDone + 1 = o.m.toNat →
            exec (.lowerCrossing c) s =
              .next (ends (.ok o.m.toNat ((k.accumulator + raw) / o.m.toNat)))))) ∧
      (k.state = .discharging → ∀ n, k.phaseTimer = .up n → 1 ≤ n →
        (k.samplesDone + 1 < o.m.toNat →
          exec (.lowerCrossing c) s = .next (s.setCell c { k with
            level := .low, state := .precharging, phaseTimer := .down o.precharge,
            stallTimer := none, accumulator := k.accumulator + n,
            samplesDone := k.samplesDone + 1 })) ∧
        (k.samplesDone + 1 = o.m.toNat →
          exec (.lowerCrossing c) s =
            .next (ends (.ok o.m.toNat ((k.accumulator + n) / o.m.toNat)))))

/-- Gate expiry, precharge expiry, overflow and stall (R11, R14 to R16, R20, R21): a gate with no
crossing ends the order UNDERRANGE and another completes its sample; a release at LOW ends it
UNDERRANGE and one at HIGH begins the discharge; a tick count past 16777215 ends it OVERRANGE; a
stall timer at L times 64 ticks ends it STALL with the level as it stands. That each waits at its
end value until it is taken is the model's choice (log 7). -/
def Obligations.ExpiriesEndSamples : Prop :=
  ∀ (s : State) (c : CellId) (o : Order),
    let k := s.cell c
    let ends := fun out : Outcome => s.deliver c o.channel out
    k.order = some o →
      (k.state = .measuring → o.method = .count → k.phaseTimer = .down 0 →
        (k.crossings = 0 →
          exec (.gateExpiry c) s = .next (ends (.underrange k.samplesDone))) ∧
        (k.crossings ≠ 0 → k.samplesDone + 1 < o.m.toNat →
          exec (.gateExpiry c) s = .next (s.setCell c { k with
            phaseTimer := .stopped, accumulator := k.accumulator + k.crossings,
            samplesDone := k.samplesDone + 1 })) ∧
        (k.crossings ≠ 0 → k.samplesDone + 1 = o.m.toNat →
          exec (.gateExpiry c) s =
            .next (ends (.ok o.m.toNat ((k.accumulator + k.crossings) / o.m.toNat))))) ∧
      (k.state = .precharging → k.phaseTimer = .down 0 →
        (k.level = .low →
          exec (.prechargeExpiry c) s = .next (ends (.underrange k.samplesDone))) ∧
        (k.level = .high →
          exec (.prechargeExpiry c) s = .next (s.setCell c { k with
            state := .discharging, phaseTimer := .up 0, stallTimer := some 0 }))) ∧
      (k.state = .measuring → o.method = .period → k.phaseTimer = .up 16777216 →
        exec (.periodOverflow c) s = .next (ends (.overrange k.samplesDone))) ∧
      (k.state ∈ [CellState.starting, .measuring, .discharging] →
        k.stallTimer = some (o.stallLimit * 64) →
        exec (.stallExpiry c) s = .next (ends (.stall k.samplesDone k.level)))

/-- The end of a rest (R5, R7, R8, R15, R99, R108): a free cell is IDLE and gets an opportunity; a cell
owned by a job between its orders takes the main order, made from the job's copy, when the job's
channel is enabled and, unless forced, not FAULTED, and otherwise the job ends UNAVAILABLE (R73 to
R75), the cell IDLE and free, with an opportunity. That the end of a rest waits at 0 until it is taken
is the model's choice (log 7), and so is that the attempt of the cell after an UNAVAILABLE is a step
of its own, for which an opportunity waits (log 22). -/
def Obligations.RestEndsInIdleOrTheMainOrder : Prop :=
  ∀ (s : State) (c : CellId),
    let idle := { s.cell c with state := .idle, order := none, phaseTimer := .stopped }
    (s.cell c).state = .resting → (s.cell c).phaseTimer = .down 0 →
      (s.job c = none →
        exec (.restExpiry c) s = .next ((s.setCell c idle).setOpportunity c true)) ∧
      (∀ j, s.job c = some j →
        let usable := (s.channel j.channel).enabled = true ∧
          ((s.channel j.channel).health ≠ .faulted ∨ j.force = true)
        (usable → ∃ k, exec (.restExpiry c) s = .next (s.setCell c k) ∧
          TakesOrder idle
            { channel := j.channel, method := j.copy.method, settle := j.copy.settle
              cycles := j.copy.cycles, gate := j.copy.gate, precharge := j.copy.precharge
              stallLimit := j.copy.stallLimit, m := j.m } k) ∧
        (¬ usable → ∃ t, exec (.restExpiry c) s = .next t ∧
          SettingsKept s t ∧ t.cell c = idle ∧ t.cell c.other = s.cell c.other ∧
          t.opportunity c = true ∧ t.opportunity c.other = s.opportunity c.other ∧
          t.channels = s.channels ∧ t.references = s.references ∧ t.requests = s.requests ∧
          JobEnds s c j (j.endRecord .unavailable s.timebase.counter) t))

/-! ### Health, references, ratios and windows -/

/-- The health update of an outcome (R40 to R44): a STALL counts to at most 7, records its level and
makes the channel FAULTED at the threshold, with CHANNEL_FAULT raised only on the change and, on a
reference channel, the cell's records invalidated; any other outcome clears count and level and
makes the channel GOOD, a FAULTED one only when forced, which hands on an opportunity if enabled. -/
def Obligations.HealthFollowsOutcomes : Prop :=
  ∀ (s : State) (ch : Fin 10) (forced : Bool) (o : Outcome),
    let r := s.channel ch
    let t := s.updateHealth ch forced o
    SettingsKept s t ∧ t.cells = s.cells ∧ t.scan = s.scan ∧ t.results = s.results ∧
    (∀ d, d ≠ ch → t.channel d = s.channel d) ∧ (t.channel ch).enabled = r.enabled ∧
    (∀ n l, o = .stall n l →
      (t.channel ch).stalls = min 7 (r.stalls + 1) ∧ (t.channel ch).lastLevel = some l ∧
      (s.channels.threshold ≤ min 7 (r.stalls + 1) → (t.channel ch).health = .faulted) ∧
      (min 7 (r.stalls + 1) < s.channels.threshold → r.health = .good →
        (t.channel ch).health = .suspect) ∧
      (min 7 (r.stalls + 1) < s.channels.threshold → r.health ≠ .good →
        (t.channel ch).health = r.health) ∧
      (t.raised .channelFault = true ↔ s.raised .channelFault = true ∨
        (r.health ≠ .faulted ∧ (t.channel ch).health = .faulted)) ∧
      (∀ c p, t.reference c p =
        if 8 ≤ ch.val ∧ c = cellOf ch ∧ r.health ≠ .faulted ∧ (t.channel ch).health = .faulted
        then ReferenceRecord.invalid else s.reference c p)) ∧
    ((∀ n l, o ≠ .stall n l) →
      (t.channel ch).stalls = 0 ∧ (t.channel ch).lastLevel = none ∧
      (t.channel ch).health =
        (if r.health = .faulted ∧ forced = false then .faulted else .good) ∧
      t.references = s.references ∧ t.events = s.events ∧
      (∀ c, t.opportunity c = (s.opportunity c ||
        (decide (c = cellOf ch ∧ r.enabled = true ∧ r.health = .faulted ∧ forced = true) &&
          s.idleFree c))))

/-- A main outcome ends its job (R23, R40, R94, R110, R111, R122 to R125, R142, R156): the cell
rests, one record is appended into the job's slot with the next sequence number, a reference job's
outcome is stored with use count 0 or invalidates the record of its cell and profile, no other
reference record being touched, and the context is released. A scan job's record is shown to the
window monitor first, and the end of the job is handed to the scan sequencer (R73 to R75). The
fields of the records that a job appends (R110) are written out: those of a main outcome, of an end
without one, and of a reference report. That the settle count remaining keeps its value at the end
of an order is the model's choice (log 20). -/
def Obligations.MainOutcomesEndTheJob : Prop :=
  (∀ (s : State) (c : CellId) (o : Outcome) (j : Job),
    s.job c = some j → j.phase = .main →
    let t := s.deliver c j.channel o
    let v := (s.setCell c (s.cell c).rest).updateHealth j.channel j.force o
    t.cell c = { s.cell c with
      state := .resting, order := none, phaseTimer := .down 32, stallTimer := none,
      crossings := 0, accumulator := 0, samplesDone := 0, referenceTaken := false } ∧
    t.cell c.other = s.cell c.other ∧ SettingsKept s t ∧ t.requests = s.requests ∧
    t.channels = v.channels ∧ (∀ d, t.opportunity d = v.opportunity d) ∧
    JobEnds v c j (j.mainRecord o s.timebase.counter) t ∧
    v.results = s.results ∧ v.scan = s.scan ∧ v.windows = s.windows ∧ v.timer = s.timer ∧
    v.job c.other = s.job c.other ∧
    (j.channel.val < 8 → t.references = v.references) ∧
    (∀ d q, d ≠ c ∨ q ≠ j.profile → t.reference d q = v.reference d q) ∧
    (8 ≤ j.channel.val → (∀ n raw, o ≠ .ok n raw) →
      t.reference c j.profile = ReferenceRecord.invalid) ∧
    (8 ≤ j.channel.val → ∀ n raw, o = .ok n raw →
      t.reference c j.profile =
        if j.copy.generation = (s.profile j.profile).generation ∧
            v.available (referenceChannel c) = true ∧ j.superseded = false then
          { valid := true, raw := raw, stamp := s.timebase.counter, uses := 0,
            generation := j.copy.generation }
        else v.reference c j.profile)) ∧
  (∀ (j : Job) (c : CellId) (o : Outcome) (status : RecordStatus) (now : BitVec 32),
    let m := j.mainRecord o now
    let e := j.endRecord status now
    let q := j.reportRecord c o now
    let fromOrigin := fun r : Record =>
      (∀ i n, j.origin = .scan i n → r.sourceId = BitVec.ofNat 8 i.val ∧ r.cycle = some n) ∧
      (∀ tag, j.origin = .request tag → r.sourceId = tag ∧ r.cycle = none)
    let fromOutcome := fun r : Record =>
      (∀ n raw, o = .ok n raw →
        r.status = .ok ∧ r.samples = n ∧ r.raw = some raw ∧ r.stallLevel = none) ∧
      (∀ n, o = .overrange n →
        r.status = .overrange ∧ r.samples = n ∧ r.raw = none ∧ r.stallLevel = none) ∧
      (∀ n, o = .underrange n →
        r.status = .underrange ∧ r.samples = n ∧ r.raw = none ∧ r.stallLevel = none) ∧
      (∀ n l, o = .stall n l →
        r.status = .stall ∧ r.samples = n ∧ r.raw = none ∧ r.stallLevel = some l)
    fromOrigin m ∧ fromOrigin e ∧ fromOrigin q ∧ fromOutcome m ∧ fromOutcome q ∧
    ((∃ i n, j.origin = .scan i n) → m.kind = .scan ∧ e.kind = .scan) ∧
    ((∃ tag, j.origin = .request tag) → m.kind = .request ∧ e.kind = .request) ∧
    q.kind = .reference ∧ m.channel = j.channel ∧ e.channel = j.channel ∧
    q.channel = (match c with | .a => 8 | .b => 9) ∧
    (∀ r ∈ [m, e, q], r.profile = j.profile ∧ r.transition = none ∧ r.timestamp = now) ∧
    m.refreshed = j.refreshed ∧ e.refreshed = j.refreshed ∧ q.refreshed = false ∧
    (m.ratio ≠ none ↔ j.ratio = true ∧ j.pairing ≠ none ∧ ∃ n raw, o = .ok n raw) ∧
    e.status = status ∧ e.samples = 0 ∧ e.raw = none ∧ e.stallLevel = none ∧
    e.ratio = none ∧ q.ratio = none)

/-- The reference outcome of a held job (R107, R109, R122 to R125): OK, it is stored with use count
1 when R123 allows, becomes the pairing value whether stored or not, and the job stands between its
orders with one slot; otherwise the record is invalid and the job ends REF_FAILED (R73 to R75). Only
the record of the cell and the job's profile is touched. A job that holds two slots first appends a
reference-report record, whose fields are those of R110. -/
def Obligations.ReferenceOutcomesPairOrFail : Prop :=
  ∀ (s : State) (c : CellId) (o : Outcome) (j : Job),
    s.job c = some j → j.phase = .reference →
    let t := s.deliver c (referenceChannel c) o
    let v := (s.setCell c (s.cell c).rest).updateHealth (referenceChannel c) false o
    let report : List Record := if j.slots = 2 then
      [{ j.reportRecord c o s.timebase.counter with sequence := s.results.nextSequence }] else []
    let u : State := { v with results := { s.results with
      records := s.results.records ++ report
      reserved := s.results.reserved - report.length
      nextSequence := s.results.nextSequence + BitVec.ofNat 16 report.length } }
    (t.cell c).state = .resting ∧ (t.cell c).phaseTimer = .down 32 ∧ (t.cell c).order = none ∧
    t.cell c.other = s.cell c.other ∧
    SettingsKept s t ∧ t.requests = s.requests ∧ t.channels = v.channels ∧
    (∀ d, t.opportunity d = v.opportunity d) ∧
    v.scan = s.scan ∧ v.windows = s.windows ∧ v.timer = s.timer ∧
    v.job c.other = s.job c.other ∧
    (∀ d q, d ≠ c ∨ q ≠ j.profile → t.reference d q = v.reference d q) ∧
    (∀ n raw, o = .ok n raw →
      t.job c = some { j with
        pairing := some raw, refreshed := true, phase := .main, slots := 1 } ∧
      t.job c.other = s.job c.other ∧
      t.results = u.results ∧ t.scan = s.scan ∧ t.windows = s.windows ∧ t.timer = s.timer ∧
      t.events = v.events ∧
      t.reference c j.profile =
        if j.copy.generation = (s.profile j.profile).generation ∧
            v.available (referenceChannel c) = true ∧ j.superseded = false then
          { valid := true, raw := raw, stamp := s.timebase.counter, uses := 1,
            generation := j.copy.generation }
        else v.reference c j.profile) ∧
    ((∀ n raw, o ≠ .ok n raw) →
      JobEnds u c j (j.endRecord .refFailed s.timebase.counter) t ∧
      t.reference c j.profile = ReferenceRecord.invalid)

/-- The ratio (R133): the sensor reading times 65536 over the reference reading, or under COUNT the
reference over the sensor, the product formed in full and the remainder discarded. Saturation (R134):
a quotient above 16777215 is reported as 16777215 with the flag set and any other as it is with the
flag clear; under PERIOD and SLOPE that is a sensor raw of at least 256 times the reference raw,
under COUNT the reverse. The record keeps its status and its raw fields, and the window monitor
compares the ratio reported. -/
def Obligations.RatioIsTruncatedAndSaturates : Prop :=
  (∀ (m : Method) (sensor reference : Nat), sensor ≠ 0 → reference ≠ 0 →
    let q := ratioQuotient m sensor reference
    (m ≠ .count → q * reference ≤ sensor * 65536 ∧ sensor * 65536 < (q + 1) * reference) ∧
    (m = .count → q * sensor ≤ reference * 65536 ∧ reference * 65536 < (q + 1) * sensor)) ∧
  (∀ (m : Method) (sensor reference : Nat), sensor ≠ 0 → reference ≠ 0 →
    let q := ratioQuotient m sensor reference
    let r := ratioOf m sensor reference
    r.reference = reference ∧
    (16777215 < q → r.ratio = 16777215 ∧ r.saturated = true) ∧
    (q ≤ 16777215 → r.ratio = q ∧ r.saturated = false) ∧
    (m ≠ .count → (r.saturated = true ↔ 256 * reference ≤ sensor)) ∧
    (m = .count → (r.saturated = true ↔ 256 * sensor ≤ reference))) ∧
  (∀ (j : Job) (n sensor reference : Nat) (now : BitVec 32),
    j.ratio = true → j.pairing = some reference →
    let r := j.mainRecord (.ok n sensor) now
    r.status = .ok ∧ r.raw = some sensor ∧
      r.ratio = some (ratioOf j.copy.method sensor reference) ∧
      (∀ e : ScanEntry, e.ratio = true → e.channel.toNat < 8 →
        comparedValue e r = some (ratioOf j.copy.method sensor reference).ratio))

/-- The window monitor (R156 to R162): an entry without a window leaves the record and every window state
record as they are. The compared value is the record's ratio for an entry of a sensor channel with
ratio yes, and its raw value for any other. A record without its compared value breaks the run; in
UNKNOWN the first class is taken at once, without a mark; a class equal to the state ends the run; a
class that differs is counted, from 1 when it is a new one, and at the qualify count it becomes the
state, marks the record and joins the change set. The class is that of R159 by the present state, with
hysteresis and clamping. -/
def Obligations.WindowsQualifyTransitions : Prop :=
  (∀ low high h v : Nat, low < high → v ≤ 16777215 →
    (classify none low high h v = .below ↔ v < low) ∧
    (classify none low high h v = .above ↔ high < v) ∧
    (classify (some .inside) low high h v = .above ↔ high + h < v) ∧
    (classify (some .inside) low high h v = .below ↔ v + h < low) ∧
    (classify (some .above) low high h v = .above ↔ high - h < v) ∧
    (classify (some .above) low high h v = .below ↔ v ≤ high - h ∧ v < low) ∧
    (classify (some .below) low high h v = .below ↔ v < min (low + h) 16777215) ∧
    (classify (some .below) low high h v = .above ↔ min (low + h) 16777215 ≤ v ∧ high < v)) ∧
  (∀ (e : ScanEntry) (r : Record),
    (e.ratio = true → e.channel.toNat < 8 → ∀ q, r.ratio = some q →
      comparedValue e r = some q.ratio) ∧
    (e.ratio = true → e.channel.toNat < 8 → r.ratio = none → comparedValue e r = none) ∧
    (e.ratio = false ∨ 8 ≤ e.channel.toNat → comparedValue e r = r.raw)) ∧
  (∀ (s : State) (i : Fin 16) (r : Record), (s.scan.active[i]).window = none →
    s.monitor i r = (r, s)) ∧
  ∀ (s : State) (i : Fin 16) (r : Record) (w : Window),
    (s.scan.active[i]).window = some w →
    let k := s.windows.records[i]
    let k' := (s.monitor i r).2.windows.records[i]
    let set := s.windows.changeSet
    let out := s.monitor i r
    let quiet := out.1.transition = none ∧ out.2.windows.changeSet = set
    (∀ d : Fin 16, d ≠ i → out.2.windows.records[d] = s.windows.records[d]) ∧
    (comparedValue s.scan.active[i] r = none →
      k' = { k with pending := none, count := 0 } ∧ quiet) ∧
    (∀ v, comparedValue s.scan.active[i] r = some v →
      let class' := classify k.state w.low.toNat w.high.toNat w.hysteresis.toNat v
      let run := if k.pending = some class' then k.count + 1 else 1
      (k.state = none → k' = { state := some class', pending := none, count := 0 } ∧ quiet) ∧
      (k.state = some class' → k' = { k with pending := none, count := 0 } ∧ quiet) ∧
      (k.state ≠ none → k.state ≠ some class' → run < w.qualify.toNat →
        k' = { k with pending := some class', count := run } ∧ quiet) ∧
      (k.state ≠ none → k.state ≠ some class' → w.qualify.toNat ≤ run →
        k' = { state := some class', pending := none, count := 0 } ∧
        out.1.transition = some class' ∧
        ∀ d : Fin 16, out.2.windows.changeSet.getLsbD d.val =
          (set.getLsbD d.val || decide (d = i))))

/-! ### The dispatcher -/

/-- The candidate and its judgement (R72, R86, R97, R100, R101, R119): the cell's oldest request,
else its due entry of lowest index; a request gives its tag, channel, profile, M, ratio and force,
and a due entry its index, the current cycle number, its channel, profile, M and ratio, and no
force; then the checks of R101 in their order, freshness by the five conditions of R119. -/
def Obligations.CandidateAndJudgement : Prop :=
  ∀ (s : State) (c : CellId),
    (∀ (before after : List Request) (r : Request),
      s.requests.queue = before ++ r :: after → (∀ x ∈ before, cellOf x.channel ≠ c) →
      cellOf r.channel = c → s.candidate c = some
        { origin := .request r.tag, channel := r.channel, profile := r.profile, m := r.m,
          ratio := r.ratio, force := r.force }) ∧
    ((∀ x ∈ s.requests.queue, cellOf x.channel ≠ c) →
      let belongs := fun x : Fin 16 =>
        ∃ ch : Fin 10, ch.val = (s.scan.active[x]).channel.toNat ∧ cellOf ch = c
      (∀ (before after : List (Fin 16)) (i : Fin 16) (ch : Fin 10) (p : Fin 4) (m : Averaging),
        s.scan.due = before ++ i :: after → (∀ x ∈ before, ¬ belongs x) →
        ch.val = (s.scan.active[i]).channel.toNat → p.val = (s.scan.active[i]).profile.toNat →
        m.toNat = (s.scan.active[i]).m.toNat → cellOf ch = c →
        s.candidate c = some
          { origin := .scan i s.scan.cycle, channel := ch, profile := p, m := m,
            ratio := (s.scan.active[i]).ratio, force := false }) ∧
      ((∀ x ∈ s.scan.due, ¬ belongs x) → s.candidate c = none)) ∧
    (∀ w : Work,
      let r := s.channel w.channel
      let forced := w.force
      let pr := s.profile w.profile
      let record := s.reference c w.profile
      let ref := s.channel (referenceChannel c)
      let fresh := record.valid = true ∧ record.generation = pr.generation ∧ pr.lifetime ≠ 0 ∧
        (s.timebase.counter - record.stamp).toNat < pr.lifetime ∧ record.uses < pr.useLimit
      (r.enabled = false → s.judge c w = .unavailable) ∧
      (r.enabled = true → r.health = .faulted → forced = false → s.judge c w = .unavailable) ∧
      (r.enabled = true → (r.health ≠ .faulted ∨ forced = true) →
        (8 ≤ w.channel.val ∨ w.ratio = false → s.judge c w = .converts) ∧
        (w.channel.val < 8 → w.ratio = true →
          (ref.enabled = false ∨ ref.health = .faulted → s.judge c w = .refFailed) ∧
          (ref.enabled = true → ref.health ≠ .faulted →
            (fresh → s.judge c w = .paired) ∧
            (¬ fresh → s.judge c w = .held pr.reportReferences)))))

/-- A dispatch attempt that dispatches (R7, R8, R15, R35, R72, R86, R97, R99, R102, R104 to R106, R121):
with its slots free, an IDLE and free cell's candidate leaves its queue or list, its slots are
reserved, the context holds the job with the profile as it stands, and the cell takes the order: on
the job's channel, or for a held job on the cell's reference channel with M 1. A pairing takes the
record's raw value and spends one of its uses. -/
def Obligations.AttemptGivesTheOrder : Prop :=
  ∀ (s : State) (c : CellId) (w : Work),
    s.opportunity c = true → (s.cell c).state = .idle → s.job c = none →
    s.candidate c = some w → (s.judge c w).slots ≤ s.freeSlots →
    s.judge c w ≠ .unavailable → s.judge c w ≠ .refFailed →
    let held := ∃ b, s.judge c w = .held b
    let copy := s.profile w.profile
    let order := fun (ch : Fin 10) (m : Averaging) =>
      ({ channel := ch, method := copy.method, settle := copy.settle, cycles := copy.cycles
         gate := copy.gate, precharge := copy.precharge, stallLimit := copy.stallLimit
         m := m } : Order)
    ∃ (t : State) (j : Job), exec (.dispatchAttempt c) s = .next t ∧
      t.job c = some j ∧ t.job c.other = s.job c.other ∧
      j.origin = w.origin ∧ j.channel = w.channel ∧ j.profile = w.profile ∧ j.copy = copy ∧
      j.superseded = false ∧ j.m = w.m ∧
      (j.ratio = true ↔ w.ratio = true ∧ w.channel.val < 8) ∧ j.force = w.force ∧
      (held → j.phase = .reference) ∧ (¬ held → j.phase = .main) ∧
      (s.judge c w = .held true → j.slots = 2) ∧ (s.judge c w ≠ .held true → j.slots = 1) ∧
      (s.judge c w = .paired → j.pairing = some (s.reference c w.profile).raw) ∧
      (s.judge c w ≠ .paired → j.pairing = none) ∧ j.refreshed = false ∧
      t.opportunity c = false ∧ t.opportunity c.other = s.opportunity c.other ∧
      (held → TakesOrder (s.cell c) (order (match c with | .a => 8 | .b => 9) .m1) (t.cell c)) ∧
      (¬ held → TakesOrder (s.cell c) (order w.channel w.m) (t.cell c)) ∧
      t.cell c.other = s.cell c.other ∧
      t.results = { s.results with reserved := s.results.reserved + j.slots } ∧
      (∀ tag, w.origin = .request tag → t.scan = s.scan ∧
        ∀ (before after : List Request) (r : Request), s.requests.queue = before ++ r :: after →
          (∀ x ∈ before, cellOf x.channel ≠ c) → cellOf r.channel = c →
          t.requests = { s.requests with queue := before ++ after }) ∧
      (∀ i n, w.origin = .scan i n → t.requests = s.requests ∧
        t.scan = { s.scan with
          due := s.scan.due.erase i, jobsInFlight := s.scan.jobsInFlight + 1 }) ∧
      (∀ d q, t.reference d q =
        if s.judge c w = .paired ∧ d = c ∧ q = w.profile then
          { s.reference d q with uses := (s.reference d q).uses + 1 }
        else s.reference d q) ∧
      SettingsKept s t ∧ t.channels = s.channels ∧ t.windows = s.windows ∧
      t.timer = s.timer ∧ t.events = s.events

/-- A dispatch attempt that gives no order (R99, R100, R102, R104): a cell that is not IDLE and free,
or has no candidate, or whose claim is refused, changes nothing but its opportunity; a candidate
judged UNAVAILABLE or REF_FAILED leaves its queue or list (R72, R86), takes one slot and ends at once
in one record (R73 to R75, R110), leaving the cell IDLE and free with a further opportunity, taken as
a step of its own (logs 6 and 22). -/
def Obligations.AttemptWithoutAnOrder : Prop :=
  ∀ (s : State) (c : CellId), s.opportunity c = true →
    ((s.cell c).state ≠ .idle ∨ s.job c ≠ none →
      exec (.dispatchAttempt c) s = .next (s.setOpportunity c false)) ∧
    (s.candidate c = none →
      exec (.dispatchAttempt c) s = .next (s.setOpportunity c false)) ∧
    (∀ w, s.candidate c = some w →
      (s.freeSlots < (s.judge c w).slots →
        exec (.dispatchAttempt c) s = .next (s.setOpportunity c false)) ∧
      (∀ status, (s.cell c).state = .idle → s.job c = none → 1 ≤ s.freeSlots →
        (s.judge c w = .unavailable ∧ status = .unavailable ∨
          s.judge c w = .refFailed ∧ status = .refFailed) →
        ∃ (t u : State) (j : Job), exec (.dispatchAttempt c) s = .next t ∧
          u.results = { s.results with reserved := s.results.reserved + 1 } ∧
          (∀ tag, w.origin = .request tag → u.scan = s.scan ∧
            ∀ (before after : List Request) (r : Request),
              s.requests.queue = before ++ r :: after →
              (∀ x ∈ before, cellOf x.channel ≠ c) → cellOf r.channel = c →
              u.requests = { s.requests with queue := before ++ after }) ∧
          (∀ i n, w.origin = .scan i n → u.requests = s.requests ∧
            u.scan = { s.scan with
              due := s.scan.due.erase i, jobsInFlight := s.scan.jobsInFlight + 1 }) ∧
          u.windows = s.windows ∧ u.timer = s.timer ∧ u.events = s.events ∧
          u.job c.other = s.job c.other ∧
          j.origin = w.origin ∧ j.channel = w.channel ∧ j.profile = w.profile ∧
          j.refreshed = false ∧
          JobEnds u c j (j.endRecord status s.timebase.counter) t ∧
          t.requests = u.requests ∧ SettingsKept s t ∧ t.cell c = s.cell c ∧
          t.cell c.other = s.cell c.other ∧ t.opportunity c = true ∧
          t.opportunity c.other = s.opportunity c.other ∧
          t.channels = s.channels ∧ t.references = s.references))

end
end

