-- ==== Sys2Proof/Laws/State.lean ====
section
/-!
SUPPORT. The small lemmas of the state's updates: one for each field and each update, and one for
each way of reading it back, so that no later proof unfolds a record update.
-/
namespace Sys2Proof.Machine

/-! ### One value for each cell -/

@[simp] theorem CellId.other_a : CellId.other .a = .b := rfl
@[simp] theorem CellId.other_b : CellId.other .b = .a := rfl
@[simp] theorem CellId.other_other (c : CellId) : c.other.other = c := by cases c <;> rfl
@[simp] theorem CellId.other_ne (c : CellId) : c.other ≠ c := by cases c <;> decide
@[simp] theorem CellId.ne_other (c : CellId) : c ≠ c.other := by cases c <;> decide

theorem CellId.eq_or_other (c d : CellId) : d = c ∨ d = c.other := by
  cases c <;> cases d <;> simp

section
variable {α : Type} (p : PerCell α) (c : CellId) (x : α)

@[simp] theorem PerCell.get_a : p.get .a = p.a := rfl
@[simp] theorem PerCell.get_b : p.get .b = p.b := rfl
@[simp] theorem PerCell.get_set : (p.set c x).get c = x := by cases c <;> rfl
@[simp] theorem PerCell.get_set_other : (p.set c x).get c.other = p.get c.other := by
  cases c <;> rfl
@[simp] theorem PerCell.get_other_set : (p.set c.other x).get c = p.get c := by
  cases c <;> rfl
@[simp] theorem PerCell.set_a : p.set .a x = ⟨x, p.b⟩ := rfl
@[simp] theorem PerCell.set_b : p.set .b x = ⟨p.a, x⟩ := rfl
@[simp] theorem PerCell.set_get : p.set c (p.get c) = p := by cases c <;> rfl
theorem PerCell.get_set_of (d : CellId) :
    (p.set c x).get d = if d = c then x else p.get d := by
  cases c <;> cases d <;> rfl
end

/-! ### Fields after each update -/

section
variable (s : State)

@[simp] theorem State.setCell_cells (c : CellId) (k : Cell) :
    (s.setCell c k).cells = s.cells.set c k := rfl
@[simp] theorem State.setCell_dispatch (c : CellId) (k : Cell) :
    (s.setCell c k).dispatch = s.dispatch := rfl
@[simp] theorem State.setCell_profiles (c : CellId) (k : Cell) :
    (s.setCell c k).profiles = s.profiles := rfl
@[simp] theorem State.setCell_channels (c : CellId) (k : Cell) :
    (s.setCell c k).channels = s.channels := rfl
@[simp] theorem State.setCell_scan (c : CellId) (k : Cell) : (s.setCell c k).scan = s.scan := rfl
@[simp] theorem State.setCell_requests (c : CellId) (k : Cell) :
    (s.setCell c k).requests = s.requests := rfl
@[simp] theorem State.setCell_references (c : CellId) (k : Cell) :
    (s.setCell c k).references = s.references := rfl
@[simp] theorem State.setCell_results (c : CellId) (k : Cell) :
    (s.setCell c k).results = s.results := rfl
@[simp] theorem State.setCell_windows (c : CellId) (k : Cell) :
    (s.setCell c k).windows = s.windows := rfl
@[simp] theorem State.setCell_timebase (c : CellId) (k : Cell) :
    (s.setCell c k).timebase = s.timebase := rfl
@[simp] theorem State.setCell_timer (c : CellId) (k : Cell) : (s.setCell c k).timer = s.timer := rfl
@[simp] theorem State.setCell_trig (c : CellId) (k : Cell) : (s.setCell c k).trig = s.trig := rfl
@[simp] theorem State.setCell_events (c : CellId) (k : Cell) :
    (s.setCell c k).events = s.events := rfl
@[simp] theorem State.setCell_port (c : CellId) (k : Cell) : (s.setCell c k).port = s.port := rfl
@[simp] theorem State.setCell_command (c : CellId) (k : Cell) :
    (s.setCell c k).command = s.command := rfl
@[simp] theorem State.setCell_resetHeld (c : CellId) (k : Cell) :
    (s.setCell c k).resetHeld = s.resetHeld := rfl
@[simp] theorem State.setCell_freeIndex (c : CellId) (k : Cell) :
    (s.setCell c k).freeIndex = s.freeIndex := rfl
@[simp] theorem State.setCell_pending (c : CellId) (k : Cell) :
    (s.setCell c k).pending = s.pending := rfl
@[simp] theorem State.setCell_wire (c : CellId) (k : Cell) :
    (s.setCell c k).wire = s.wire := rfl

@[simp] theorem State.setJob_cells (c : CellId) (j : Option Job) :
    (s.setJob c j).cells = s.cells := rfl
@[simp] theorem State.setJob_dispatch (c : CellId) (j : Option Job) :
    (s.setJob c j).dispatch = s.dispatch.set c { s.dispatch.get c with job := j } := rfl
@[simp] theorem State.setJob_profiles (c : CellId) (j : Option Job) :
    (s.setJob c j).profiles = s.profiles := rfl
@[simp] theorem State.setJob_channels (c : CellId) (j : Option Job) :
    (s.setJob c j).channels = s.channels := rfl
@[simp] theorem State.setJob_scan (c : CellId) (j : Option Job) :
    (s.setJob c j).scan = s.scan := rfl
@[simp] theorem State.setJob_requests (c : CellId) (j : Option Job) :
    (s.setJob c j).requests = s.requests := rfl
@[simp] theorem State.setJob_references (c : CellId) (j : Option Job) :
    (s.setJob c j).references = s.references := rfl
@[simp] theorem State.setJob_results (c : CellId) (j : Option Job) :
    (s.setJob c j).results = s.results := rfl
@[simp] theorem State.setJob_windows (c : CellId) (j : Option Job) :
    (s.setJob c j).windows = s.windows := rfl
@[simp] theorem State.setJob_timebase (c : CellId) (j : Option Job) :
    (s.setJob c j).timebase = s.timebase := rfl
@[simp] theorem State.setJob_timer (c : CellId) (j : Option Job) :
    (s.setJob c j).timer = s.timer := rfl
@[simp] theorem State.setJob_trig (c : CellId) (j : Option Job) :
    (s.setJob c j).trig = s.trig := rfl
@[simp] theorem State.setJob_events (c : CellId) (j : Option Job) :
    (s.setJob c j).events = s.events := rfl
@[simp] theorem State.setJob_port (c : CellId) (j : Option Job) :
    (s.setJob c j).port = s.port := rfl
@[simp] theorem State.setJob_command (c : CellId) (j : Option Job) :
    (s.setJob c j).command = s.command := rfl
@[simp] theorem State.setJob_resetHeld (c : CellId) (j : Option Job) :
    (s.setJob c j).resetHeld = s.resetHeld := rfl
@[simp] theorem State.setJob_freeIndex (c : CellId) (j : Option Job) :
    (s.setJob c j).freeIndex = s.freeIndex := rfl
@[simp] theorem State.setJob_pending (c : CellId) (j : Option Job) :
    (s.setJob c j).pending = s.pending := rfl
@[simp] theorem State.setJob_wire (c : CellId) (j : Option Job) :
    (s.setJob c j).wire = s.wire := rfl

@[simp] theorem State.setOpportunity_cells (c : CellId) (b : Bool) :
    (s.setOpportunity c b).cells = s.cells := rfl
@[simp] theorem State.setOpportunity_dispatch (c : CellId) (b : Bool) :
    (s.setOpportunity c b).dispatch = s.dispatch.set c { s.dispatch.get c with opportunity := b } := rfl
@[simp] theorem State.setOpportunity_profiles (c : CellId) (b : Bool) :
    (s.setOpportunity c b).profiles = s.profiles := rfl
@[simp] theorem State.setOpportunity_channels (c : CellId) (b : Bool) :
    (s.setOpportunity c b).channels = s.channels := rfl
@[simp] theorem State.setOpportunity_scan (c : CellId) (b : Bool) :
    (s.setOpportunity c b).scan = s.scan := rfl
@[simp] theorem State.setOpportunity_requests (c : CellId) (b : Bool) :
    (s.setOpportunity c b).requests = s.requests := rfl
@[simp] theorem State.setOpportunity_references (c : CellId) (b : Bool) :
    (s.setOpportunity c b).references = s.references := rfl
@[simp] theorem State.setOpportunity_results (c : CellId) (b : Bool) :
    (s.setOpportunity c b).results = s.results := rfl
@[simp] theorem State.setOpportunity_windows (c : CellId) (b : Bool) :
    (s.setOpportunity c b).windows = s.windows := rfl
@[simp] theorem State.setOpportunity_timebase (c : CellId) (b : Bool) :
    (s.setOpportunity c b).timebase = s.timebase := rfl
@[simp] theorem State.setOpportunity_timer (c : CellId) (b : Bool) :
    (s.setOpportunity c b).timer = s.timer := rfl
@[simp] theorem State.setOpportunity_trig (c : CellId) (b : Bool) :
    (s.setOpportunity c b).trig = s.trig := rfl
@[simp] theorem State.setOpportunity_events (c : CellId) (b : Bool) :
    (s.setOpportunity c b).events = s.events := rfl
@[simp] theorem State.setOpportunity_port (c : CellId) (b : Bool) :
    (s.setOpportunity c b).port = s.port := rfl
@[simp] theorem State.setOpportunity_command (c : CellId) (b : Bool) :
    (s.setOpportunity c b).command = s.command := rfl
@[simp] theorem State.setOpportunity_resetHeld (c : CellId) (b : Bool) :
    (s.setOpportunity c b).resetHeld = s.resetHeld := rfl
@[simp] theorem State.setOpportunity_freeIndex (c : CellId) (b : Bool) :
    (s.setOpportunity c b).freeIndex = s.freeIndex := rfl
@[simp] theorem State.setOpportunity_pending (c : CellId) (b : Bool) :
    (s.setOpportunity c b).pending = s.pending := rfl
@[simp] theorem State.setOpportunity_wire (c : CellId) (b : Bool) :
    (s.setOpportunity c b).wire = s.wire := rfl

@[simp] theorem State.setChannel_cells (ch : Fin 10) (r : ChannelRecord) :
    (s.setChannel ch r).cells = s.cells := rfl
@[simp] theorem State.setChannel_dispatch (ch : Fin 10) (r : ChannelRecord) :
    (s.setChannel ch r).dispatch = s.dispatch := rfl
@[simp] theorem State.setChannel_profiles (ch : Fin 10) (r : ChannelRecord) :
    (s.setChannel ch r).profiles = s.profiles := rfl
@[simp] theorem State.setChannel_channels (ch : Fin 10) (r : ChannelRecord) :
    (s.setChannel ch r).channels = { s.channels with records := s.channels.records.set ch r } := rfl
@[simp] theorem State.setChannel_scan (ch : Fin 10) (r : ChannelRecord) :
    (s.setChannel ch r).scan = s.scan := rfl
@[simp] theorem State.setChannel_requests (ch : Fin 10) (r : ChannelRecord) :
    (s.setChannel ch r).requests = s.requests := rfl
@[simp] theorem State.setChannel_references (ch : Fin 10) (r : ChannelRecord) :
    (s.setChannel ch r).references = s.references := rfl
@[simp] theorem State.setChannel_results (ch : Fin 10) (r : ChannelRecord) :
    (s.setChannel ch r).results = s.results := rfl
@[simp] theorem State.setChannel_windows (ch : Fin 10) (r : ChannelRecord) :
    (s.setChannel ch r).windows = s.windows := rfl
@[simp] theorem State.setChannel_timebase (ch : Fin 10) (r : ChannelRecord) :
    (s.setChannel ch r).timebase = s.timebase := rfl
@[simp] theorem State.setChannel_timer (ch : Fin 10) (r : ChannelRecord) :
    (s.setChannel ch r).timer = s.timer := rfl
@[simp] theorem State.setChannel_trig (ch : Fin 10) (r : ChannelRecord) :
    (s.setChannel ch r).trig = s.trig := rfl
@[simp] theorem State.setChannel_events (ch : Fin 10) (r : ChannelRecord) :
    (s.setChannel ch r).events = s.events := rfl
@[simp] theorem State.setChannel_port (ch : Fin 10) (r : ChannelRecord) :
    (s.setChannel ch r).port = s.port := rfl
@[simp] theorem State.setChannel_command (ch : Fin 10) (r : ChannelRecord) :
    (s.setChannel ch r).command = s.command := rfl
@[simp] theorem State.setChannel_resetHeld (ch : Fin 10) (r : ChannelRecord) :
    (s.setChannel ch r).resetHeld = s.resetHeld := rfl
@[simp] theorem State.setChannel_freeIndex (ch : Fin 10) (r : ChannelRecord) :
    (s.setChannel ch r).freeIndex = s.freeIndex := rfl
@[simp] theorem State.setChannel_pending (ch : Fin 10) (r : ChannelRecord) :
    (s.setChannel ch r).pending = s.pending := rfl
@[simp] theorem State.setChannel_wire (ch : Fin 10) (r : ChannelRecord) :
    (s.setChannel ch r).wire = s.wire := rfl

@[simp] theorem State.setReference_cells (c : CellId) (p : Fin 4) (r : ReferenceRecord) :
    (s.setReference c p r).cells = s.cells := rfl
@[simp] theorem State.setReference_dispatch (c : CellId) (p : Fin 4) (r : ReferenceRecord) :
    (s.setReference c p r).dispatch = s.dispatch := rfl
@[simp] theorem State.setReference_profiles (c : CellId) (p : Fin 4) (r : ReferenceRecord) :
    (s.setReference c p r).profiles = s.profiles := rfl
@[simp] theorem State.setReference_channels (c : CellId) (p : Fin 4) (r : ReferenceRecord) :
    (s.setReference c p r).channels = s.channels := rfl
@[simp] theorem State.setReference_scan (c : CellId) (p : Fin 4) (r : ReferenceRecord) :
    (s.setReference c p r).scan = s.scan := rfl
@[simp] theorem State.setReference_requests (c : CellId) (p : Fin 4) (r : ReferenceRecord) :
    (s.setReference c p r).requests = s.requests := rfl
@[simp] theorem State.setReference_references (c : CellId) (p : Fin 4) (r : ReferenceRecord) :
    (s.setReference c p r).references = s.references.set c ((s.references.get c).set p r) := rfl
@[simp] theorem State.setReference_results (c : CellId) (p : Fin 4) (r : ReferenceRecord) :
    (s.setReference c p r).results = s.results := rfl
@[simp] theorem State.setReference_windows (c : CellId) (p : Fin 4) (r : ReferenceRecord) :
    (s.setReference c p r).windows = s.windows := rfl
@[simp] theorem State.setReference_timebase (c : CellId) (p : Fin 4) (r : ReferenceRecord) :
    (s.setReference c p r).timebase = s.timebase := rfl
@[simp] theorem State.setReference_timer (c : CellId) (p : Fin 4) (r : ReferenceRecord) :
    (s.setReference c p r).timer = s.timer := rfl
@[simp] theorem State.setReference_trig (c : CellId) (p : Fin 4) (r : ReferenceRecord) :
    (s.setReference c p r).trig = s.trig := rfl
@[simp] theorem State.setReference_events (c : CellId) (p : Fin 4) (r : ReferenceRecord) :
    (s.setReference c p r).events = s.events := rfl
@[simp] theorem State.setReference_port (c : CellId) (p : Fin 4) (r : ReferenceRecord) :
    (s.setReference c p r).port = s.port := rfl
@[simp] theorem State.setReference_command (c : CellId) (p : Fin 4) (r : ReferenceRecord) :
    (s.setReference c p r).command = s.command := rfl
@[simp] theorem State.setReference_resetHeld (c : CellId) (p : Fin 4) (r : ReferenceRecord) :
    (s.setReference c p r).resetHeld = s.resetHeld := rfl
@[simp] theorem State.setReference_freeIndex (c : CellId) (p : Fin 4) (r : ReferenceRecord) :
    (s.setReference c p r).freeIndex = s.freeIndex := rfl
@[simp] theorem State.setReference_pending (c : CellId) (p : Fin 4) (r : ReferenceRecord) :
    (s.setReference c p r).pending = s.pending := rfl
@[simp] theorem State.setReference_wire (c : CellId) (p : Fin 4) (r : ReferenceRecord) :
    (s.setReference c p r).wire = s.wire := rfl

@[simp] theorem State.setScan_cells (x : Scan) : (s.setScan x).cells = s.cells := rfl
@[simp] theorem State.setScan_dispatch (x : Scan) : (s.setScan x).dispatch = s.dispatch := rfl
@[simp] theorem State.setScan_profiles (x : Scan) : (s.setScan x).profiles = s.profiles := rfl
@[simp] theorem State.setScan_channels (x : Scan) : (s.setScan x).channels = s.channels := rfl
@[simp] theorem State.setScan_scan (x : Scan) : (s.setScan x).scan = x := rfl
@[simp] theorem State.setScan_requests (x : Scan) : (s.setScan x).requests = s.requests := rfl
@[simp] theorem State.setScan_references (x : Scan) : (s.setScan x).references = s.references := rfl
@[simp] theorem State.setScan_results (x : Scan) : (s.setScan x).results = s.results := rfl
@[simp] theorem State.setScan_windows (x : Scan) : (s.setScan x).windows = s.windows := rfl
@[simp] theorem State.setScan_timebase (x : Scan) : (s.setScan x).timebase = s.timebase := rfl
@[simp] theorem State.setScan_timer (x : Scan) : (s.setScan x).timer = s.timer := rfl
@[simp] theorem State.setScan_trig (x : Scan) : (s.setScan x).trig = s.trig := rfl
@[simp] theorem State.setScan_events (x : Scan) : (s.setScan x).events = s.events := rfl
@[simp] theorem State.setScan_port (x : Scan) : (s.setScan x).port = s.port := rfl
@[simp] theorem State.setScan_command (x : Scan) : (s.setScan x).command = s.command := rfl
@[simp] theorem State.setScan_resetHeld (x : Scan) : (s.setScan x).resetHeld = s.resetHeld := rfl
@[simp] theorem State.setScan_freeIndex (x : Scan) : (s.setScan x).freeIndex = s.freeIndex := rfl
@[simp] theorem State.setScan_pending (x : Scan) : (s.setScan x).pending = s.pending := rfl
@[simp] theorem State.setScan_wire (x : Scan) : (s.setScan x).wire = s.wire := rfl

@[simp] theorem State.reserve_cells (n : Nat) : (s.reserve n).cells = s.cells := rfl
@[simp] theorem State.reserve_dispatch (n : Nat) : (s.reserve n).dispatch = s.dispatch := rfl
@[simp] theorem State.reserve_profiles (n : Nat) : (s.reserve n).profiles = s.profiles := rfl
@[simp] theorem State.reserve_channels (n : Nat) : (s.reserve n).channels = s.channels := rfl
@[simp] theorem State.reserve_scan (n : Nat) : (s.reserve n).scan = s.scan := rfl
@[simp] theorem State.reserve_requests (n : Nat) : (s.reserve n).requests = s.requests := rfl
@[simp] theorem State.reserve_references (n : Nat) : (s.reserve n).references = s.references := rfl
@[simp] theorem State.reserve_results (n : Nat) :
    (s.reserve n).results = { s.results with reserved := s.results.reserved + n } := rfl
@[simp] theorem State.reserve_windows (n : Nat) : (s.reserve n).windows = s.windows := rfl
@[simp] theorem State.reserve_timebase (n : Nat) : (s.reserve n).timebase = s.timebase := rfl
@[simp] theorem State.reserve_timer (n : Nat) : (s.reserve n).timer = s.timer := rfl
@[simp] theorem State.reserve_trig (n : Nat) : (s.reserve n).trig = s.trig := rfl
@[simp] theorem State.reserve_events (n : Nat) : (s.reserve n).events = s.events := rfl
@[simp] theorem State.reserve_port (n : Nat) : (s.reserve n).port = s.port := rfl
@[simp] theorem State.reserve_command (n : Nat) : (s.reserve n).command = s.command := rfl
@[simp] theorem State.reserve_resetHeld (n : Nat) : (s.reserve n).resetHeld = s.resetHeld := rfl
@[simp] theorem State.reserve_freeIndex (n : Nat) : (s.reserve n).freeIndex = s.freeIndex := rfl
@[simp] theorem State.reserve_pending (n : Nat) : (s.reserve n).pending = s.pending := rfl
@[simp] theorem State.reserve_wire (n : Nat) : (s.reserve n).wire = s.wire := rfl

@[simp] theorem State.invalidateCell_cells (c : CellId) :
    (s.invalidateCell c).cells = s.cells := rfl
@[simp] theorem State.invalidateCell_dispatch (c : CellId) :
    (s.invalidateCell c).dispatch = s.dispatch := rfl
@[simp] theorem State.invalidateCell_profiles (c : CellId) :
    (s.invalidateCell c).profiles = s.profiles := rfl
@[simp] theorem State.invalidateCell_channels (c : CellId) :
    (s.invalidateCell c).channels = s.channels := rfl
@[simp] theorem State.invalidateCell_scan (c : CellId) : (s.invalidateCell c).scan = s.scan := rfl
@[simp] theorem State.invalidateCell_requests (c : CellId) :
    (s.invalidateCell c).requests = s.requests := rfl
@[simp] theorem State.invalidateCell_references (c : CellId) :
    (s.invalidateCell c).references = s.references.set c ReferenceRecord.allInvalid := rfl
@[simp] theorem State.invalidateCell_results (c : CellId) :
    (s.invalidateCell c).results = s.results := rfl
@[simp] theorem State.invalidateCell_windows (c : CellId) :
    (s.invalidateCell c).windows = s.windows := rfl
@[simp] theorem State.invalidateCell_timebase (c : CellId) :
    (s.invalidateCell c).timebase = s.timebase := rfl
@[simp] theorem State.invalidateCell_timer (c : CellId) :
    (s.invalidateCell c).timer = s.timer := rfl
@[simp] theorem State.invalidateCell_trig (c : CellId) : (s.invalidateCell c).trig = s.trig := rfl
@[simp] theorem State.invalidateCell_events (c : CellId) :
    (s.invalidateCell c).events = s.events := rfl
@[simp] theorem State.invalidateCell_port (c : CellId) : (s.invalidateCell c).port = s.port := rfl
@[simp] theorem State.invalidateCell_command (c : CellId) :
    (s.invalidateCell c).command = s.command := rfl
@[simp] theorem State.invalidateCell_resetHeld (c : CellId) :
    (s.invalidateCell c).resetHeld = s.resetHeld := rfl
@[simp] theorem State.invalidateCell_freeIndex (c : CellId) :
    (s.invalidateCell c).freeIndex = s.freeIndex := rfl
@[simp] theorem State.invalidateCell_pending (c : CellId) :
    (s.invalidateCell c).pending = s.pending := rfl
@[simp] theorem State.invalidateCell_wire (c : CellId) :
    (s.invalidateCell c).wire = s.wire := rfl

@[simp] theorem State.invalidateAll_cells : (s.invalidateAll).cells = s.cells := rfl
@[simp] theorem State.invalidateAll_dispatch : (s.invalidateAll).dispatch = s.dispatch := rfl
@[simp] theorem State.invalidateAll_profiles : (s.invalidateAll).profiles = s.profiles := rfl
@[simp] theorem State.invalidateAll_channels : (s.invalidateAll).channels = s.channels := rfl
@[simp] theorem State.invalidateAll_scan : (s.invalidateAll).scan = s.scan := rfl
@[simp] theorem State.invalidateAll_requests : (s.invalidateAll).requests = s.requests := rfl
@[simp] theorem State.invalidateAll_references :
    (s.invalidateAll).references = ⟨ReferenceRecord.allInvalid, ReferenceRecord.allInvalid⟩ := rfl
@[simp] theorem State.invalidateAll_results : (s.invalidateAll).results = s.results := rfl
@[simp] theorem State.invalidateAll_windows : (s.invalidateAll).windows = s.windows := rfl
@[simp] theorem State.invalidateAll_timebase : (s.invalidateAll).timebase = s.timebase := rfl
@[simp] theorem State.invalidateAll_timer : (s.invalidateAll).timer = s.timer := rfl
@[simp] theorem State.invalidateAll_trig : (s.invalidateAll).trig = s.trig := rfl
@[simp] theorem State.invalidateAll_events : (s.invalidateAll).events = s.events := rfl
@[simp] theorem State.invalidateAll_port : (s.invalidateAll).port = s.port := rfl
@[simp] theorem State.invalidateAll_command : (s.invalidateAll).command = s.command := rfl
@[simp] theorem State.invalidateAll_resetHeld : (s.invalidateAll).resetHeld = s.resetHeld := rfl
@[simp] theorem State.invalidateAll_freeIndex : (s.invalidateAll).freeIndex = s.freeIndex := rfl
@[simp] theorem State.invalidateAll_pending : (s.invalidateAll).pending = s.pending := rfl
@[simp] theorem State.invalidateAll_wire : (s.invalidateAll).wire = s.wire := rfl

@[simp] theorem State.raise_cells (e : LatchedEvent) : (s.raise e).cells = s.cells := rfl
@[simp] theorem State.raise_dispatch (e : LatchedEvent) : (s.raise e).dispatch = s.dispatch := rfl
@[simp] theorem State.raise_profiles (e : LatchedEvent) : (s.raise e).profiles = s.profiles := rfl
@[simp] theorem State.raise_channels (e : LatchedEvent) : (s.raise e).channels = s.channels := rfl
@[simp] theorem State.raise_scan (e : LatchedEvent) : (s.raise e).scan = s.scan := rfl
@[simp] theorem State.raise_requests (e : LatchedEvent) : (s.raise e).requests = s.requests := rfl
@[simp] theorem State.raise_references (e : LatchedEvent) : (s.raise e).references = s.references := rfl
@[simp] theorem State.raise_results (e : LatchedEvent) : (s.raise e).results = s.results := rfl
@[simp] theorem State.raise_windows (e : LatchedEvent) : (s.raise e).windows = s.windows := rfl
@[simp] theorem State.raise_timebase (e : LatchedEvent) : (s.raise e).timebase = s.timebase := rfl
@[simp] theorem State.raise_timer (e : LatchedEvent) : (s.raise e).timer = s.timer := rfl
@[simp] theorem State.raise_trig (e : LatchedEvent) : (s.raise e).trig = s.trig := rfl
@[simp] theorem State.raise_events (e : LatchedEvent) : (s.raise e).events = { s.events with flags := s.events.flags ||| e.mask } := rfl
@[simp] theorem State.raise_port (e : LatchedEvent) : (s.raise e).port = s.port := rfl
@[simp] theorem State.raise_command (e : LatchedEvent) : (s.raise e).command = s.command := rfl
@[simp] theorem State.raise_resetHeld (e : LatchedEvent) : (s.raise e).resetHeld = s.resetHeld := rfl
@[simp] theorem State.raise_freeIndex (e : LatchedEvent) : (s.raise e).freeIndex = s.freeIndex := rfl
@[simp] theorem State.raise_pending (e : LatchedEvent) : (s.raise e).pending = s.pending := rfl
@[simp] theorem State.raise_wire (e : LatchedEvent) : (s.raise e).wire = s.wire := rfl
end

/-! ### Reading back -/

section
variable (s : State)

@[simp] theorem State.setCell_job (c : CellId) (k : Cell) (d : CellId) :
    (s.setCell c k).job d = s.job d := rfl
@[simp] theorem State.setCell_opportunity (c : CellId) (k : Cell) (d : CellId) :
    (s.setCell c k).opportunity d = s.opportunity d := rfl
@[simp] theorem State.setCell_channel (c : CellId) (k : Cell) (ch' : Fin 10) :
    (s.setCell c k).channel ch' = s.channel ch' := rfl
@[simp] theorem State.setCell_profile (c : CellId) (k : Cell) (p' : Fin 4) :
    (s.setCell c k).profile p' = s.profile p' := rfl
@[simp] theorem State.setCell_reference (c : CellId) (k : Cell) (d : CellId) (p' : Fin 4) :
    (s.setCell c k).reference d p' = s.reference d p' := rfl
@[simp] theorem State.setJob_cell (c : CellId) (j : Option Job) (d : CellId) :
    (s.setJob c j).cell d = s.cell d := rfl
@[simp] theorem State.setJob_channel (c : CellId) (j : Option Job) (ch' : Fin 10) :
    (s.setJob c j).channel ch' = s.channel ch' := rfl
@[simp] theorem State.setJob_profile (c : CellId) (j : Option Job) (p' : Fin 4) :
    (s.setJob c j).profile p' = s.profile p' := rfl
@[simp] theorem State.setJob_reference (c : CellId) (j : Option Job) (d : CellId) (p' : Fin 4) :
    (s.setJob c j).reference d p' = s.reference d p' := rfl
@[simp] theorem State.setOpportunity_cell (c : CellId) (b : Bool) (d : CellId) :
    (s.setOpportunity c b).cell d = s.cell d := rfl
@[simp] theorem State.setOpportunity_channel (c : CellId) (b : Bool) (ch' : Fin 10) :
    (s.setOpportunity c b).channel ch' = s.channel ch' := rfl
@[simp] theorem State.setOpportunity_profile (c : CellId) (b : Bool) (p' : Fin 4) :
    (s.setOpportunity c b).profile p' = s.profile p' := rfl
@[simp] theorem State.setOpportunity_reference (c : CellId) (b : Bool) (d : CellId) (p' : Fin 4) :
    (s.setOpportunity c b).reference d p' = s.reference d p' := rfl
@[simp] theorem State.setChannel_cell (ch : Fin 10) (r : ChannelRecord) (d : CellId) :
    (s.setChannel ch r).cell d = s.cell d := rfl
@[simp] theorem State.setChannel_job (ch : Fin 10) (r : ChannelRecord) (d : CellId) :
    (s.setChannel ch r).job d = s.job d := rfl
@[simp] theorem State.setChannel_opportunity (ch : Fin 10) (r : ChannelRecord) (d : CellId) :
    (s.setChannel ch r).opportunity d = s.opportunity d := rfl
@[simp] theorem State.setChannel_profile (ch : Fin 10) (r : ChannelRecord) (p' : Fin 4) :
    (s.setChannel ch r).profile p' = s.profile p' := rfl
@[simp] theorem State.setChannel_reference (ch : Fin 10) (r : ChannelRecord) (d : CellId) (p' : Fin 4) :
    (s.setChannel ch r).reference d p' = s.reference d p' := rfl
@[simp] theorem State.setReference_cell (c : CellId) (p : Fin 4) (r : ReferenceRecord) (d : CellId) :
    (s.setReference c p r).cell d = s.cell d := rfl
@[simp] theorem State.setReference_job (c : CellId) (p : Fin 4) (r : ReferenceRecord) (d : CellId) :
    (s.setReference c p r).job d = s.job d := rfl
@[simp] theorem State.setReference_opportunity (c : CellId) (p : Fin 4) (r : ReferenceRecord) (d : CellId) :
    (s.setReference c p r).opportunity d = s.opportunity d := rfl
@[simp] theorem State.setReference_channel (c : CellId) (p : Fin 4) (r : ReferenceRecord) (ch' : Fin 10) :
    (s.setReference c p r).channel ch' = s.channel ch' := rfl
@[simp] theorem State.setReference_profile (c : CellId) (p : Fin 4) (r : ReferenceRecord) (p' : Fin 4) :
    (s.setReference c p r).profile p' = s.profile p' := rfl
@[simp] theorem State.setScan_cell (x : Scan) (d : CellId) :
    (s.setScan x).cell d = s.cell d := rfl
@[simp] theorem State.setScan_job (x : Scan) (d : CellId) :
    (s.setScan x).job d = s.job d := rfl
@[simp] theorem State.setScan_opportunity (x : Scan) (d : CellId) :
    (s.setScan x).opportunity d = s.opportunity d := rfl
@[simp] theorem State.setScan_channel (x : Scan) (ch' : Fin 10) :
    (s.setScan x).channel ch' = s.channel ch' := rfl
@[simp] theorem State.setScan_profile (x : Scan) (p' : Fin 4) :
    (s.setScan x).profile p' = s.profile p' := rfl
@[simp] theorem State.setScan_reference (x : Scan) (d : CellId) (p' : Fin 4) :
    (s.setScan x).reference d p' = s.reference d p' := rfl
@[simp] theorem State.reserve_cell (n : Nat) (d : CellId) :
    (s.reserve n).cell d = s.cell d := rfl
@[simp] theorem State.reserve_job (n : Nat) (d : CellId) :
    (s.reserve n).job d = s.job d := rfl
@[simp] theorem State.reserve_opportunity (n : Nat) (d : CellId) :
    (s.reserve n).opportunity d = s.opportunity d := rfl
@[simp] theorem State.reserve_channel (n : Nat) (ch' : Fin 10) :
    (s.reserve n).channel ch' = s.channel ch' := rfl
@[simp] theorem State.reserve_profile (n : Nat) (p' : Fin 4) :
    (s.reserve n).profile p' = s.profile p' := rfl
@[simp] theorem State.reserve_reference (n : Nat) (d : CellId) (p' : Fin 4) :
    (s.reserve n).reference d p' = s.reference d p' := rfl
@[simp] theorem State.invalidateCell_cell (c : CellId) (d : CellId) :
    (s.invalidateCell c).cell d = s.cell d := rfl
@[simp] theorem State.invalidateCell_job (c : CellId) (d : CellId) :
    (s.invalidateCell c).job d = s.job d := rfl
@[simp] theorem State.invalidateCell_opportunity (c : CellId) (d : CellId) :
    (s.invalidateCell c).opportunity d = s.opportunity d := rfl
@[simp] theorem State.invalidateCell_channel (c : CellId) (ch' : Fin 10) :
    (s.invalidateCell c).channel ch' = s.channel ch' := rfl
@[simp] theorem State.invalidateCell_profile (c : CellId) (p' : Fin 4) :
    (s.invalidateCell c).profile p' = s.profile p' := rfl
@[simp] theorem State.invalidateAll_cell (d : CellId) :
    (s.invalidateAll).cell d = s.cell d := rfl
@[simp] theorem State.invalidateAll_job (d : CellId) :
    (s.invalidateAll).job d = s.job d := rfl
@[simp] theorem State.invalidateAll_opportunity (d : CellId) :
    (s.invalidateAll).opportunity d = s.opportunity d := rfl
@[simp] theorem State.invalidateAll_channel (ch' : Fin 10) :
    (s.invalidateAll).channel ch' = s.channel ch' := rfl
@[simp] theorem State.invalidateAll_profile (p' : Fin 4) :
    (s.invalidateAll).profile p' = s.profile p' := rfl
@[simp] theorem State.raise_cell (e : LatchedEvent) (d : CellId) :
    (s.raise e).cell d = s.cell d := rfl
@[simp] theorem State.raise_job (e : LatchedEvent) (d : CellId) :
    (s.raise e).job d = s.job d := rfl
@[simp] theorem State.raise_opportunity (e : LatchedEvent) (d : CellId) :
    (s.raise e).opportunity d = s.opportunity d := rfl
@[simp] theorem State.raise_channel (e : LatchedEvent) (ch' : Fin 10) :
    (s.raise e).channel ch' = s.channel ch' := rfl
@[simp] theorem State.raise_profile (e : LatchedEvent) (p' : Fin 4) :
    (s.raise e).profile p' = s.profile p' := rfl
@[simp] theorem State.raise_reference (e : LatchedEvent) (d : CellId) (p' : Fin 4) :
    (s.raise e).reference d p' = s.reference d p' := rfl

theorem State.cell_setCell (c d : CellId) (k : Cell) :
    (s.setCell c k).cell d = if d = c then k else s.cell d := PerCell.get_set_of ..
@[simp] theorem State.cell_setCell_self (c : CellId) (k : Cell) : (s.setCell c k).cell c = k :=
  PerCell.get_set ..
@[simp] theorem State.cell_setCell_other (c : CellId) (k : Cell) :
    (s.setCell c k).cell c.other = s.cell c.other := PerCell.get_set_other ..
theorem State.job_setJob (c d : CellId) (j : Option Job) :
    (s.setJob c j).job d = if d = c then j else s.job d := by
  cases c <;> cases d <;> rfl
@[simp] theorem State.job_setJob_self (c : CellId) (j : Option Job) : (s.setJob c j).job c = j := by
  cases c <;> rfl
@[simp] theorem State.job_setJob_other (c : CellId) (j : Option Job) :
    (s.setJob c j).job c.other = s.job c.other := by
  cases c <;> rfl
@[simp] theorem State.opportunity_setJob (c d : CellId) (j : Option Job) :
    (s.setJob c j).opportunity d = s.opportunity d := by
  cases c <;> cases d <;> rfl
theorem State.opportunity_setOpportunity (c d : CellId) (b : Bool) :
    (s.setOpportunity c b).opportunity d = if d = c then b else s.opportunity d := by
  cases c <;> cases d <;> rfl
@[simp] theorem State.job_setOpportunity (c d : CellId) (b : Bool) :
    (s.setOpportunity c b).job d = s.job d := by
  cases c <;> cases d <;> rfl
theorem State.channel_setChannel (ch d : Fin 10) (r : ChannelRecord) :
    (s.setChannel ch r).channel d = if d = ch then r else s.channel d := by
  by_cases h : d = ch
  · simp [h, State.channel]
  · have : ch.val ≠ d.val := fun e => h (Fin.ext e.symm)
    simp [h, State.channel, this]
@[simp] theorem State.channel_setChannel_self (ch : Fin 10) (r : ChannelRecord) :
    (s.setChannel ch r).channel ch = r := by simp [State.channel_setChannel]
theorem State.reference_setReference (c d : CellId) (p q : Fin 4) (r : ReferenceRecord) :
    (s.setReference c p r).reference d q = if d = c ∧ q = p then r else s.reference d q := by
  by_cases h : d = c
  · subst h
    by_cases h' : q = p
    · simp [h', State.reference]
    · have : p.val ≠ q.val := fun e => h' (Fin.ext e.symm)
      simp [h', State.reference, this]
  · simp [h, State.reference, PerCell.get_set_of]
theorem State.reference_invalidateCell (c d : CellId) (p : Fin 4) :
    (s.invalidateCell c).reference d p =
      if d = c then ReferenceRecord.invalid else s.reference d p := by
  by_cases h : d = c
  · simp [h, State.reference, ReferenceRecord.allInvalid]
  · simp [h, State.reference, PerCell.get_set_of]
@[simp] theorem State.reference_invalidateAll (d : CellId) (p : Fin 4) :
    s.invalidateAll.reference d p = ReferenceRecord.invalid := by
  cases d <;> simp [State.reference, ReferenceRecord.allInvalid]
end

end Sys2Proof.Machine
end

