-- ==== Sys2Proof/Laws/Frames.lean ====
section
/-!
SUPPORT. Frames: for each shared operation, the fields of the state it leaves as they are.
-/
namespace Sys2Proof.Machine

@[simp] theorem State.offer_frame (s : State) (c : CellId) :
    (s.offer c).cells = s.cells ∧ (s.offer c).profiles = s.profiles ∧
    (s.offer c).channels = s.channels ∧ (s.offer c).scan = s.scan ∧
    (s.offer c).requests = s.requests ∧ (s.offer c).references = s.references ∧
    (s.offer c).results = s.results ∧ (s.offer c).windows = s.windows ∧
    (s.offer c).timebase = s.timebase ∧ (s.offer c).timer = s.timer ∧ (s.offer c).trig = s.trig ∧
    (s.offer c).events = s.events ∧ (s.offer c).port = s.port ∧ (s.offer c).command = s.command ∧
    (s.offer c).resetHeld = s.resetHeld ∧ (s.offer c).freeIndex = s.freeIndex ∧
    (s.offer c).pending = s.pending ∧
    (s.offer c).wire = s.wire := by
  unfold State.offer; split <;> simp

@[simp] theorem State.offer_keeps_job (s : State) (c : CellId) (d : CellId) :
    (s.offer c).job d = s.job d := by
  unfold State.offer; split <;> simp

@[simp] theorem State.offerBoth_frame (s : State) :
    (s.offerBoth).cells = s.cells ∧ (s.offerBoth).profiles = s.profiles ∧
    (s.offerBoth).channels = s.channels ∧ (s.offerBoth).scan = s.scan ∧
    (s.offerBoth).requests = s.requests ∧ (s.offerBoth).references = s.references ∧
    (s.offerBoth).results = s.results ∧ (s.offerBoth).windows = s.windows ∧
    (s.offerBoth).timebase = s.timebase ∧ (s.offerBoth).timer = s.timer ∧
    (s.offerBoth).trig = s.trig ∧ (s.offerBoth).events = s.events ∧ (s.offerBoth).port = s.port ∧
    (s.offerBoth).command = s.command ∧ (s.offerBoth).resetHeld = s.resetHeld ∧
    (s.offerBoth).freeIndex = s.freeIndex ∧ (s.offerBoth).pending = s.pending ∧
    (s.offerBoth).wire = s.wire := by
  simp [State.offerBoth]

@[simp] theorem State.offerBoth_keeps_job (s : State) (d : CellId) :
    (s.offerBoth).job d = s.job d := by
  simp [State.offerBoth]

@[simp] theorem State.invalidate_frame (s : State) (c : CellId) (p : Fin 4) :
    (s.invalidate c p).cells = s.cells ∧ (s.invalidate c p).dispatch = s.dispatch ∧
    (s.invalidate c p).profiles = s.profiles ∧ (s.invalidate c p).channels = s.channels ∧
    (s.invalidate c p).scan = s.scan ∧ (s.invalidate c p).requests = s.requests ∧
    (s.invalidate c p).results = s.results ∧ (s.invalidate c p).windows = s.windows ∧
    (s.invalidate c p).timebase = s.timebase ∧ (s.invalidate c p).timer = s.timer ∧
    (s.invalidate c p).trig = s.trig ∧ (s.invalidate c p).events = s.events ∧
    (s.invalidate c p).port = s.port ∧ (s.invalidate c p).command = s.command ∧
    (s.invalidate c p).resetHeld = s.resetHeld ∧ (s.invalidate c p).freeIndex = s.freeIndex ∧
    (s.invalidate c p).pending = s.pending ∧
    (s.invalidate c p).wire = s.wire := by
  simp [State.invalidate]

@[simp] theorem State.invalidateProfile_frame (s : State) (p : Fin 4) :
    (s.invalidateProfile p).cells = s.cells ∧ (s.invalidateProfile p).dispatch = s.dispatch ∧
    (s.invalidateProfile p).profiles = s.profiles ∧
    (s.invalidateProfile p).channels = s.channels ∧ (s.invalidateProfile p).scan = s.scan ∧
    (s.invalidateProfile p).requests = s.requests ∧ (s.invalidateProfile p).results = s.results ∧
    (s.invalidateProfile p).windows = s.windows ∧ (s.invalidateProfile p).timebase = s.timebase ∧
    (s.invalidateProfile p).timer = s.timer ∧ (s.invalidateProfile p).trig = s.trig ∧
    (s.invalidateProfile p).events = s.events ∧ (s.invalidateProfile p).port = s.port ∧
    (s.invalidateProfile p).command = s.command ∧
    (s.invalidateProfile p).resetHeld = s.resetHeld ∧
    (s.invalidateProfile p).freeIndex = s.freeIndex ∧ (s.invalidateProfile p).pending = s.pending ∧
    (s.invalidateProfile p).wire = s.wire := by
  simp [State.invalidateProfile]

@[simp] theorem State.offerReference_frame
    (s : State) (c : CellId) (j : Job) (o : Outcome) (n : Nat) :
    (s.offerReference c j o n).cells = s.cells ∧
    (s.offerReference c j o n).dispatch = s.dispatch ∧
    (s.offerReference c j o n).profiles = s.profiles ∧
    (s.offerReference c j o n).channels = s.channels ∧ (s.offerReference c j o n).scan = s.scan ∧
    (s.offerReference c j o n).requests = s.requests ∧
    (s.offerReference c j o n).results = s.results ∧
    (s.offerReference c j o n).windows = s.windows ∧
    (s.offerReference c j o n).timebase = s.timebase ∧
    (s.offerReference c j o n).timer = s.timer ∧ (s.offerReference c j o n).trig = s.trig ∧
    (s.offerReference c j o n).events = s.events ∧ (s.offerReference c j o n).port = s.port ∧
    (s.offerReference c j o n).command = s.command ∧
    (s.offerReference c j o n).resetHeld = s.resetHeld ∧
    (s.offerReference c j o n).freeIndex = s.freeIndex ∧
    (s.offerReference c j o n).pending = s.pending ∧
    (s.offerReference c j o n).wire = s.wire := by
  unfold State.offerReference; cases o <;> dsimp only <;> (try split) <;> simp

@[simp] theorem State.updateHealth_frame (s : State) (ch : Fin 10) (f : Bool) (o : Outcome) :
    (s.updateHealth ch f o).cells = s.cells ∧ (s.updateHealth ch f o).profiles = s.profiles ∧
    (s.updateHealth ch f o).scan = s.scan ∧ (s.updateHealth ch f o).requests = s.requests ∧
    (s.updateHealth ch f o).results = s.results ∧ (s.updateHealth ch f o).windows = s.windows ∧
    (s.updateHealth ch f o).timebase = s.timebase ∧ (s.updateHealth ch f o).timer = s.timer ∧
    (s.updateHealth ch f o).trig = s.trig ∧ (s.updateHealth ch f o).port = s.port ∧
    (s.updateHealth ch f o).command = s.command ∧
    (s.updateHealth ch f o).resetHeld = s.resetHeld ∧
    (s.updateHealth ch f o).freeIndex = s.freeIndex ∧
    (s.updateHealth ch f o).pending = s.pending ∧
    (s.updateHealth ch f o).wire = s.wire ∧
    (s.updateHealth ch f o).channels.threshold = s.channels.threshold ∧
    (s.updateHealth ch f o).events.enable = s.events.enable := by
  unfold State.updateHealth; dsimp only; (repeat' split) <;> simp

@[simp] theorem State.updateHealth_keeps_job
    (s : State) (ch : Fin 10) (f : Bool) (o : Outcome) (d : CellId) :
    (s.updateHealth ch f o).job d = s.job d := by
  unfold State.updateHealth; dsimp only; (repeat' split) <;> simp

@[simp] theorem State.append_frame (s : State) (r : Record) :
    (s.append r).cells = s.cells ∧ (s.append r).dispatch = s.dispatch ∧
    (s.append r).profiles = s.profiles ∧ (s.append r).channels = s.channels ∧
    (s.append r).scan = s.scan ∧ (s.append r).requests = s.requests ∧
    (s.append r).references = s.references ∧ (s.append r).windows = s.windows ∧
    (s.append r).timebase = s.timebase ∧ (s.append r).timer = s.timer ∧
    (s.append r).trig = s.trig ∧ (s.append r).port = s.port ∧ (s.append r).command = s.command ∧
    (s.append r).resetHeld = s.resetHeld ∧ (s.append r).freeIndex = s.freeIndex ∧
    (s.append r).pending = s.pending ∧
    (s.append r).wire = s.wire ∧ (s.append r).results.watermark = s.results.watermark ∧
    (s.append r).results.snapshot = s.results.snapshot ∧
    (s.append r).results.current = s.results.current ∧
    (s.append r).events.enable = s.events.enable := by
  unfold State.append; split <;> simp

@[simp] theorem State.release_frame (s : State) :
    (s.release).cells = s.cells ∧ (s.release).profiles = s.profiles ∧
    (s.release).channels = s.channels ∧ (s.release).scan = s.scan ∧
    (s.release).requests = s.requests ∧ (s.release).references = s.references ∧
    (s.release).windows = s.windows ∧ (s.release).timebase = s.timebase ∧
    (s.release).timer = s.timer ∧ (s.release).trig = s.trig ∧ (s.release).events = s.events ∧
    (s.release).port = s.port ∧ (s.release).command = s.command ∧
    (s.release).resetHeld = s.resetHeld ∧ (s.release).freeIndex = s.freeIndex ∧
    (s.release).pending = s.pending ∧
    (s.release).wire = s.wire ∧ (s.release).results.records = s.results.records ∧
    (s.release).results.nextSequence = s.results.nextSequence ∧
    (s.release).results.watermark = s.results.watermark ∧
    (s.release).results.snapshot = s.results.snapshot ∧
    (s.release).results.current = s.results.current := by
  simp [State.release]

@[simp] theorem State.monitor_frame (s : State) (i : Fin 16) (r : Record) :
    (s.monitor i r).2.cells = s.cells ∧ (s.monitor i r).2.dispatch = s.dispatch ∧
    (s.monitor i r).2.profiles = s.profiles ∧ (s.monitor i r).2.channels = s.channels ∧
    (s.monitor i r).2.scan = s.scan ∧ (s.monitor i r).2.requests = s.requests ∧
    (s.monitor i r).2.references = s.references ∧ (s.monitor i r).2.results = s.results ∧
    (s.monitor i r).2.timebase = s.timebase ∧ (s.monitor i r).2.timer = s.timer ∧
    (s.monitor i r).2.trig = s.trig ∧ (s.monitor i r).2.events = s.events ∧
    (s.monitor i r).2.port = s.port ∧ (s.monitor i r).2.command = s.command ∧
    (s.monitor i r).2.resetHeld = s.resetHeld ∧ (s.monitor i r).2.freeIndex = s.freeIndex ∧
    (s.monitor i r).2.pending = s.pending ∧
    (s.monitor i r).2.wire = s.wire := by
  unfold State.monitor; split <;> simp

@[simp] theorem State.applyCommit_frame (s : State) :
    (s.applyCommit).cells = s.cells ∧ (s.applyCommit).dispatch = s.dispatch ∧
    (s.applyCommit).profiles = s.profiles ∧ (s.applyCommit).channels = s.channels ∧
    (s.applyCommit).requests = s.requests ∧ (s.applyCommit).references = s.references ∧
    (s.applyCommit).results = s.results ∧ (s.applyCommit).timebase = s.timebase ∧
    (s.applyCommit).timer = s.timer ∧ (s.applyCommit).trig = s.trig ∧
    (s.applyCommit).port = s.port ∧ (s.applyCommit).command = s.command ∧
    (s.applyCommit).resetHeld = s.resetHeld ∧ (s.applyCommit).freeIndex = s.freeIndex ∧
    (s.applyCommit).pending = s.pending ∧
    (s.applyCommit).wire = s.wire ∧ (s.applyCommit).scan.staging = s.scan.staging ∧
    (s.applyCommit).scan.image = s.scan.image ∧ (s.applyCommit).scan.state = s.scan.state ∧
    (s.applyCommit).scan.single = s.scan.single ∧ (s.applyCommit).scan.cycle = s.scan.cycle ∧
    (s.applyCommit).scan.overrun = s.scan.overrun ∧ (s.applyCommit).scan.due = s.scan.due ∧
    (s.applyCommit).scan.jobsInFlight = s.scan.jobsInFlight ∧
    (s.applyCommit).scan.source = s.scan.source ∧ (s.applyCommit).scan.edge = s.scan.edge ∧
    (s.applyCommit).events.enable = s.events.enable := by
  simp [State.applyCommit]

@[simp] theorem State.applyPending_frame (s : State) :
    (s.applyPending).cells = s.cells ∧ (s.applyPending).dispatch = s.dispatch ∧
    (s.applyPending).profiles = s.profiles ∧ (s.applyPending).channels = s.channels ∧
    (s.applyPending).requests = s.requests ∧ (s.applyPending).references = s.references ∧
    (s.applyPending).results = s.results ∧ (s.applyPending).timebase = s.timebase ∧
    (s.applyPending).timer = s.timer ∧ (s.applyPending).trig = s.trig ∧
    (s.applyPending).port = s.port ∧ (s.applyPending).command = s.command ∧
    (s.applyPending).resetHeld = s.resetHeld ∧ (s.applyPending).freeIndex = s.freeIndex ∧
    (s.applyPending).pending = s.pending ∧
    (s.applyPending).wire = s.wire ∧ (s.applyPending).scan.staging = s.scan.staging ∧
    (s.applyPending).scan.image = s.scan.image ∧ (s.applyPending).scan.state = s.scan.state ∧
    (s.applyPending).scan.single = s.scan.single ∧ (s.applyPending).scan.cycle = s.scan.cycle ∧
    (s.applyPending).scan.overrun = s.scan.overrun ∧ (s.applyPending).scan.due = s.scan.due ∧
    (s.applyPending).scan.jobsInFlight = s.scan.jobsInFlight ∧
    (s.applyPending).scan.source = s.scan.source ∧ (s.applyPending).scan.edge = s.scan.edge ∧
    (s.applyPending).events.enable = s.events.enable := by
  unfold State.applyPending; split <;> simp

@[simp] theorem State.reachStopped_frame (s : State) :
    (s.reachStopped).cells = s.cells ∧ (s.reachStopped).dispatch = s.dispatch ∧
    (s.reachStopped).profiles = s.profiles ∧ (s.reachStopped).channels = s.channels ∧
    (s.reachStopped).requests = s.requests ∧ (s.reachStopped).references = s.references ∧
    (s.reachStopped).results = s.results ∧ (s.reachStopped).timebase = s.timebase ∧
    (s.reachStopped).trig = s.trig ∧ (s.reachStopped).port = s.port ∧
    (s.reachStopped).command = s.command ∧ (s.reachStopped).resetHeld = s.resetHeld ∧
    (s.reachStopped).freeIndex = s.freeIndex ∧ (s.reachStopped).pending = s.pending ∧
    (s.reachStopped).wire = s.wire ∧
    (s.reachStopped).scan.staging = s.scan.staging ∧ (s.reachStopped).scan.image = s.scan.image ∧
    (s.reachStopped).scan.single = s.scan.single ∧ (s.reachStopped).scan.cycle = s.scan.cycle ∧
    (s.reachStopped).scan.overrun = s.scan.overrun ∧ (s.reachStopped).scan.due = s.scan.due ∧
    (s.reachStopped).scan.jobsInFlight = s.scan.jobsInFlight ∧
    (s.reachStopped).scan.source = s.scan.source ∧ (s.reachStopped).scan.edge = s.scan.edge ∧
    (s.reachStopped).events.enable = s.events.enable := by
  simp [State.reachStopped]

@[simp] theorem State.completionCheck_frame (s : State) :
    (s.completionCheck).cells = s.cells ∧ (s.completionCheck).dispatch = s.dispatch ∧
    (s.completionCheck).profiles = s.profiles ∧ (s.completionCheck).channels = s.channels ∧
    (s.completionCheck).requests = s.requests ∧ (s.completionCheck).references = s.references ∧
    (s.completionCheck).results = s.results ∧ (s.completionCheck).timebase = s.timebase ∧
    (s.completionCheck).trig = s.trig ∧ (s.completionCheck).port = s.port ∧
    (s.completionCheck).command = s.command ∧ (s.completionCheck).resetHeld = s.resetHeld ∧
    (s.completionCheck).freeIndex = s.freeIndex ∧ (s.completionCheck).pending = s.pending ∧
    (s.completionCheck).wire = s.wire ∧
    (s.completionCheck).scan.staging = s.scan.staging ∧
    (s.completionCheck).scan.image = s.scan.image ∧
    (s.completionCheck).scan.cycle = s.scan.cycle ∧
    (s.completionCheck).scan.overrun = s.scan.overrun ∧
    (s.completionCheck).scan.due = s.scan.due ∧
    (s.completionCheck).scan.jobsInFlight = s.scan.jobsInFlight ∧
    (s.completionCheck).scan.source = s.scan.source ∧
    (s.completionCheck).scan.edge = s.scan.edge ∧
    (s.completionCheck).events.enable = s.events.enable := by
  unfold State.completionCheck; dsimp only; (repeat' split) <;> simp

@[simp] theorem State.endScanJob_frame (s : State) :
    (s.endScanJob).cells = s.cells ∧ (s.endScanJob).dispatch = s.dispatch ∧
    (s.endScanJob).profiles = s.profiles ∧ (s.endScanJob).channels = s.channels ∧
    (s.endScanJob).requests = s.requests ∧ (s.endScanJob).references = s.references ∧
    (s.endScanJob).results = s.results ∧ (s.endScanJob).timebase = s.timebase ∧
    (s.endScanJob).trig = s.trig ∧ (s.endScanJob).port = s.port ∧
    (s.endScanJob).command = s.command ∧ (s.endScanJob).resetHeld = s.resetHeld ∧
    (s.endScanJob).freeIndex = s.freeIndex ∧ (s.endScanJob).pending = s.pending ∧
    (s.endScanJob).wire = s.wire ∧
    (s.endScanJob).scan.staging = s.scan.staging ∧ (s.endScanJob).scan.image = s.scan.image ∧
    (s.endScanJob).scan.cycle = s.scan.cycle ∧ (s.endScanJob).scan.overrun = s.scan.overrun ∧
    (s.endScanJob).scan.due = s.scan.due ∧ (s.endScanJob).scan.source = s.scan.source ∧
    (s.endScanJob).scan.edge = s.scan.edge ∧ (s.endScanJob).events.enable = s.events.enable := by
  simp [State.endScanJob]

@[simp] theorem State.startCycle_frame (s : State) :
    (s.startCycle).cells = s.cells ∧ (s.startCycle).profiles = s.profiles ∧
    (s.startCycle).channels = s.channels ∧ (s.startCycle).requests = s.requests ∧
    (s.startCycle).references = s.references ∧ (s.startCycle).results = s.results ∧
    (s.startCycle).timebase = s.timebase ∧ (s.startCycle).trig = s.trig ∧
    (s.startCycle).port = s.port ∧ (s.startCycle).command = s.command ∧
    (s.startCycle).resetHeld = s.resetHeld ∧ (s.startCycle).freeIndex = s.freeIndex ∧
    (s.startCycle).pending = s.pending ∧
    (s.startCycle).wire = s.wire ∧ (s.startCycle).scan.staging = s.scan.staging ∧
    (s.startCycle).scan.image = s.scan.image ∧ (s.startCycle).scan.overrun = s.scan.overrun ∧
    (s.startCycle).scan.jobsInFlight = s.scan.jobsInFlight ∧
    (s.startCycle).scan.source = s.scan.source ∧ (s.startCycle).scan.edge = s.scan.edge ∧
    (s.startCycle).events.enable = s.events.enable := by
  unfold State.startCycle; dsimp only; (repeat' split) <;> simp

@[simp] theorem State.countOverrun_frame (s : State) :
    (s.countOverrun).cells = s.cells ∧ (s.countOverrun).dispatch = s.dispatch ∧
    (s.countOverrun).profiles = s.profiles ∧ (s.countOverrun).channels = s.channels ∧
    (s.countOverrun).requests = s.requests ∧ (s.countOverrun).references = s.references ∧
    (s.countOverrun).results = s.results ∧ (s.countOverrun).windows = s.windows ∧
    (s.countOverrun).timebase = s.timebase ∧ (s.countOverrun).timer = s.timer ∧
    (s.countOverrun).trig = s.trig ∧ (s.countOverrun).port = s.port ∧
    (s.countOverrun).command = s.command ∧ (s.countOverrun).resetHeld = s.resetHeld ∧
    (s.countOverrun).freeIndex = s.freeIndex ∧ (s.countOverrun).pending = s.pending ∧
    (s.countOverrun).wire = s.wire ∧
    (s.countOverrun).scan.staging = s.scan.staging ∧
    (s.countOverrun).scan.active = s.scan.active ∧ (s.countOverrun).scan.image = s.scan.image ∧
    (s.countOverrun).scan.state = s.scan.state ∧ (s.countOverrun).scan.single = s.scan.single ∧
    (s.countOverrun).scan.cycle = s.scan.cycle ∧
    (s.countOverrun).scan.commitPending = s.scan.commitPending ∧
    (s.countOverrun).scan.due = s.scan.due ∧
    (s.countOverrun).scan.jobsInFlight = s.scan.jobsInFlight ∧
    (s.countOverrun).scan.source = s.scan.source ∧ (s.countOverrun).scan.edge = s.scan.edge ∧
    (s.countOverrun).events.enable = s.events.enable := by
  simp [State.countOverrun]

@[simp] theorem State.cycleStartEvent_frame (s : State) :
    (s.cycleStartEvent).cells = s.cells ∧ (s.cycleStartEvent).profiles = s.profiles ∧
    (s.cycleStartEvent).channels = s.channels ∧ (s.cycleStartEvent).requests = s.requests ∧
    (s.cycleStartEvent).references = s.references ∧ (s.cycleStartEvent).results = s.results ∧
    (s.cycleStartEvent).timebase = s.timebase ∧ (s.cycleStartEvent).trig = s.trig ∧
    (s.cycleStartEvent).port = s.port ∧ (s.cycleStartEvent).command = s.command ∧
    (s.cycleStartEvent).resetHeld = s.resetHeld ∧ (s.cycleStartEvent).freeIndex = s.freeIndex ∧
    (s.cycleStartEvent).pending = s.pending ∧
    (s.cycleStartEvent).wire = s.wire ∧ (s.cycleStartEvent).scan.staging = s.scan.staging ∧
    (s.cycleStartEvent).scan.image = s.scan.image ∧
    (s.cycleStartEvent).scan.jobsInFlight = s.scan.jobsInFlight ∧
    (s.cycleStartEvent).scan.source = s.scan.source ∧
    (s.cycleStartEvent).scan.edge = s.scan.edge ∧
    (s.cycleStartEvent).events.enable = s.events.enable := by
  unfold State.cycleStartEvent; split <;> simp

@[simp] theorem State.removeDue_frame (s : State) (c : CellId) :
    (s.removeDue c).cells = s.cells ∧ (s.removeDue c).dispatch = s.dispatch ∧
    (s.removeDue c).profiles = s.profiles ∧ (s.removeDue c).channels = s.channels ∧
    (s.removeDue c).requests = s.requests ∧ (s.removeDue c).references = s.references ∧
    (s.removeDue c).results = s.results ∧ (s.removeDue c).windows = s.windows ∧
    (s.removeDue c).timebase = s.timebase ∧ (s.removeDue c).timer = s.timer ∧
    (s.removeDue c).trig = s.trig ∧ (s.removeDue c).events = s.events ∧
    (s.removeDue c).port = s.port ∧ (s.removeDue c).command = s.command ∧
    (s.removeDue c).resetHeld = s.resetHeld ∧ (s.removeDue c).freeIndex = s.freeIndex ∧
    (s.removeDue c).pending = s.pending ∧
    (s.removeDue c).wire = s.wire ∧ (s.removeDue c).scan.staging = s.scan.staging ∧
    (s.removeDue c).scan.active = s.scan.active ∧ (s.removeDue c).scan.image = s.scan.image ∧
    (s.removeDue c).scan.state = s.scan.state ∧ (s.removeDue c).scan.single = s.scan.single ∧
    (s.removeDue c).scan.cycle = s.scan.cycle ∧ (s.removeDue c).scan.overrun = s.scan.overrun ∧
    (s.removeDue c).scan.commitPending = s.scan.commitPending ∧
    (s.removeDue c).scan.jobsInFlight = s.scan.jobsInFlight ∧
    (s.removeDue c).scan.source = s.scan.source ∧ (s.removeDue c).scan.edge = s.scan.edge := by
  simp [State.removeDue]

@[simp] theorem State.giveOrder_frame (s : State) (c : CellId) (o : Order) :
    (s.giveOrder c o).dispatch = s.dispatch ∧ (s.giveOrder c o).profiles = s.profiles ∧
    (s.giveOrder c o).channels = s.channels ∧ (s.giveOrder c o).scan = s.scan ∧
    (s.giveOrder c o).requests = s.requests ∧ (s.giveOrder c o).references = s.references ∧
    (s.giveOrder c o).results = s.results ∧ (s.giveOrder c o).windows = s.windows ∧
    (s.giveOrder c o).timebase = s.timebase ∧ (s.giveOrder c o).timer = s.timer ∧
    (s.giveOrder c o).trig = s.trig ∧ (s.giveOrder c o).events = s.events ∧
    (s.giveOrder c o).port = s.port ∧ (s.giveOrder c o).command = s.command ∧
    (s.giveOrder c o).resetHeld = s.resetHeld ∧ (s.giveOrder c o).freeIndex = s.freeIndex ∧
    (s.giveOrder c o).pending = s.pending ∧
    (s.giveOrder c o).wire = s.wire := by
  simp [State.giveOrder]

@[simp] theorem State.finishJob_frame (s : State) (c : CellId) (j : Job) (r : Record) :
    (s.finishJob c j r).cells = s.cells ∧ (s.finishJob c j r).profiles = s.profiles ∧
    (s.finishJob c j r).channels = s.channels ∧ (s.finishJob c j r).requests = s.requests ∧
    (s.finishJob c j r).references = s.references ∧ (s.finishJob c j r).timebase = s.timebase ∧
    (s.finishJob c j r).trig = s.trig ∧ (s.finishJob c j r).port = s.port ∧
    (s.finishJob c j r).command = s.command ∧ (s.finishJob c j r).resetHeld = s.resetHeld ∧
    (s.finishJob c j r).freeIndex = s.freeIndex ∧ (s.finishJob c j r).pending = s.pending ∧
    (s.finishJob c j r).wire = s.wire ∧
    (s.finishJob c j r).scan.staging = s.scan.staging ∧
    (s.finishJob c j r).scan.image = s.scan.image ∧
    (s.finishJob c j r).scan.cycle = s.scan.cycle ∧
    (s.finishJob c j r).scan.overrun = s.scan.overrun ∧
    (s.finishJob c j r).scan.due = s.scan.due ∧ (s.finishJob c j r).scan.source = s.scan.source ∧
    (s.finishJob c j r).scan.edge = s.scan.edge ∧
    (s.finishJob c j r).results.watermark = s.results.watermark ∧
    (s.finishJob c j r).results.snapshot = s.results.snapshot ∧
    (s.finishJob c j r).results.current = s.results.current ∧
    (s.finishJob c j r).events.enable = s.events.enable := by
  unfold State.finishJob; split <;> simp

@[simp] theorem State.reportReference_frame (s : State) (c : CellId) (j : Job) (o : Outcome) :
    (s.reportReference c j o).cells = s.cells ∧ (s.reportReference c j o).dispatch = s.dispatch ∧
    (s.reportReference c j o).profiles = s.profiles ∧
    (s.reportReference c j o).channels = s.channels ∧ (s.reportReference c j o).scan = s.scan ∧
    (s.reportReference c j o).requests = s.requests ∧
    (s.reportReference c j o).references = s.references ∧
    (s.reportReference c j o).windows = s.windows ∧
    (s.reportReference c j o).timebase = s.timebase ∧ (s.reportReference c j o).timer = s.timer ∧
    (s.reportReference c j o).trig = s.trig ∧ (s.reportReference c j o).events = s.events ∧
    (s.reportReference c j o).port = s.port ∧ (s.reportReference c j o).command = s.command ∧
    (s.reportReference c j o).resetHeld = s.resetHeld ∧
    (s.reportReference c j o).freeIndex = s.freeIndex ∧
    (s.reportReference c j o).pending = s.pending ∧
    (s.reportReference c j o).wire = s.wire ∧
    (s.reportReference c j o).results.watermark = s.results.watermark ∧
    (s.reportReference c j o).results.snapshot = s.results.snapshot ∧
    (s.reportReference c j o).results.current = s.results.current := by
  unfold State.reportReference; split <;> (repeat' constructor)

@[simp] theorem State.referencePassed_frame
    (s : State) (c : CellId) (j : Job) (o : Outcome) (n : Nat) :
    (s.referencePassed c j o n).cells = s.cells ∧
    (s.referencePassed c j o n).profiles = s.profiles ∧
    (s.referencePassed c j o n).channels = s.channels ∧
    (s.referencePassed c j o n).scan = s.scan ∧
    (s.referencePassed c j o n).requests = s.requests ∧
    (s.referencePassed c j o n).windows = s.windows ∧
    (s.referencePassed c j o n).timebase = s.timebase ∧
    (s.referencePassed c j o n).timer = s.timer ∧ (s.referencePassed c j o n).trig = s.trig ∧
    (s.referencePassed c j o n).events = s.events ∧ (s.referencePassed c j o n).port = s.port ∧
    (s.referencePassed c j o n).command = s.command ∧
    (s.referencePassed c j o n).resetHeld = s.resetHeld ∧
    (s.referencePassed c j o n).freeIndex = s.freeIndex ∧
    (s.referencePassed c j o n).pending = s.pending ∧
    (s.referencePassed c j o n).wire = s.wire ∧
    (s.referencePassed c j o n).results.watermark = s.results.watermark ∧
    (s.referencePassed c j o n).results.snapshot = s.results.snapshot ∧
    (s.referencePassed c j o n).results.current = s.results.current := by
  simp [State.referencePassed]

@[simp] theorem State.referenceFailed_frame (s : State) (c : CellId) (j : Job) (o : Outcome) :
    (s.referenceFailed c j o).cells = s.cells ∧ (s.referenceFailed c j o).profiles = s.profiles ∧
    (s.referenceFailed c j o).channels = s.channels ∧
    (s.referenceFailed c j o).requests = s.requests ∧
    (s.referenceFailed c j o).timebase = s.timebase ∧ (s.referenceFailed c j o).trig = s.trig ∧
    (s.referenceFailed c j o).port = s.port ∧ (s.referenceFailed c j o).command = s.command ∧
    (s.referenceFailed c j o).resetHeld = s.resetHeld ∧
    (s.referenceFailed c j o).freeIndex = s.freeIndex ∧
    (s.referenceFailed c j o).pending = s.pending ∧
    (s.referenceFailed c j o).wire = s.wire ∧
    (s.referenceFailed c j o).scan.staging = s.scan.staging ∧
    (s.referenceFailed c j o).scan.image = s.scan.image ∧
    (s.referenceFailed c j o).scan.cycle = s.scan.cycle ∧
    (s.referenceFailed c j o).scan.overrun = s.scan.overrun ∧
    (s.referenceFailed c j o).scan.due = s.scan.due ∧
    (s.referenceFailed c j o).scan.source = s.scan.source ∧
    (s.referenceFailed c j o).scan.edge = s.scan.edge ∧
    (s.referenceFailed c j o).results.watermark = s.results.watermark ∧
    (s.referenceFailed c j o).results.snapshot = s.results.snapshot ∧
    (s.referenceFailed c j o).results.current = s.results.current ∧
    (s.referenceFailed c j o).events.enable = s.events.enable := by
  simp [State.referenceFailed]

@[simp] theorem State.mainCompleted_frame (s : State) (c : CellId) (j : Job) (o : Outcome) :
    (s.mainCompleted c j o).cells = s.cells ∧ (s.mainCompleted c j o).profiles = s.profiles ∧
    (s.mainCompleted c j o).channels = s.channels ∧
    (s.mainCompleted c j o).requests = s.requests ∧
    (s.mainCompleted c j o).timebase = s.timebase ∧ (s.mainCompleted c j o).trig = s.trig ∧
    (s.mainCompleted c j o).port = s.port ∧ (s.mainCompleted c j o).command = s.command ∧
    (s.mainCompleted c j o).resetHeld = s.resetHeld ∧
    (s.mainCompleted c j o).freeIndex = s.freeIndex ∧
    (s.mainCompleted c j o).pending = s.pending ∧
    (s.mainCompleted c j o).wire = s.wire ∧
    (s.mainCompleted c j o).scan.staging = s.scan.staging ∧
    (s.mainCompleted c j o).scan.image = s.scan.image ∧
    (s.mainCompleted c j o).scan.cycle = s.scan.cycle ∧
    (s.mainCompleted c j o).scan.overrun = s.scan.overrun ∧
    (s.mainCompleted c j o).scan.due = s.scan.due ∧
    (s.mainCompleted c j o).scan.source = s.scan.source ∧
    (s.mainCompleted c j o).scan.edge = s.scan.edge ∧
    (s.mainCompleted c j o).results.watermark = s.results.watermark ∧
    (s.mainCompleted c j o).results.snapshot = s.results.snapshot ∧
    (s.mainCompleted c j o).results.current = s.results.current ∧
    (s.mainCompleted c j o).events.enable = s.events.enable := by
  unfold State.mainCompleted; split <;> simp

@[simp] theorem State.deliver_frame (s : State) (c : CellId) (ch : Fin 10) (o : Outcome) :
    (s.deliver c ch o).profiles = s.profiles ∧ (s.deliver c ch o).requests = s.requests ∧
    (s.deliver c ch o).timebase = s.timebase ∧ (s.deliver c ch o).trig = s.trig ∧
    (s.deliver c ch o).port = s.port ∧ (s.deliver c ch o).command = s.command ∧
    (s.deliver c ch o).resetHeld = s.resetHeld ∧ (s.deliver c ch o).freeIndex = s.freeIndex ∧
    (s.deliver c ch o).pending = s.pending ∧
    (s.deliver c ch o).wire = s.wire ∧
    (s.deliver c ch o).channels.threshold = s.channels.threshold ∧
    (s.deliver c ch o).scan.staging = s.scan.staging ∧
    (s.deliver c ch o).scan.image = s.scan.image ∧ (s.deliver c ch o).scan.cycle = s.scan.cycle ∧
    (s.deliver c ch o).scan.overrun = s.scan.overrun ∧ (s.deliver c ch o).scan.due = s.scan.due ∧
    (s.deliver c ch o).scan.source = s.scan.source ∧ (s.deliver c ch o).scan.edge = s.scan.edge ∧
    (s.deliver c ch o).results.watermark = s.results.watermark ∧
    (s.deliver c ch o).results.snapshot = s.results.snapshot ∧
    (s.deliver c ch o).results.current = s.results.current ∧
    (s.deliver c ch o).events.enable = s.events.enable := by
  unfold State.deliver; dsimp only; (repeat' split) <;> simp

@[simp] theorem State.settleCell_frame (s : State) (c : CellId) (r : Cell × Option Outcome) :
    (s.settleCell c r).profiles = s.profiles ∧ (s.settleCell c r).requests = s.requests ∧
    (s.settleCell c r).timebase = s.timebase ∧ (s.settleCell c r).trig = s.trig ∧
    (s.settleCell c r).port = s.port ∧ (s.settleCell c r).command = s.command ∧
    (s.settleCell c r).resetHeld = s.resetHeld ∧ (s.settleCell c r).freeIndex = s.freeIndex ∧
    (s.settleCell c r).pending = s.pending ∧
    (s.settleCell c r).wire = s.wire ∧
    (s.settleCell c r).channels.threshold = s.channels.threshold ∧
    (s.settleCell c r).scan.staging = s.scan.staging ∧
    (s.settleCell c r).scan.image = s.scan.image ∧ (s.settleCell c r).scan.cycle = s.scan.cycle ∧
    (s.settleCell c r).scan.overrun = s.scan.overrun ∧ (s.settleCell c r).scan.due = s.scan.due ∧
    (s.settleCell c r).scan.source = s.scan.source ∧ (s.settleCell c r).scan.edge = s.scan.edge ∧
    (s.settleCell c r).results.watermark = s.results.watermark ∧
    (s.settleCell c r).results.snapshot = s.results.snapshot ∧
    (s.settleCell c r).results.current = s.results.current ∧
    (s.settleCell c r).events.enable = s.events.enable := by
  unfold State.settleCell; split <;> simp

@[simp] theorem State.abortJob_frame (s : State) (c : CellId) (j : Job) (st : RecordStatus) :
    (s.abortJob c j st).cells = s.cells ∧ (s.abortJob c j st).profiles = s.profiles ∧
    (s.abortJob c j st).channels = s.channels ∧ (s.abortJob c j st).requests = s.requests ∧
    (s.abortJob c j st).references = s.references ∧ (s.abortJob c j st).timebase = s.timebase ∧
    (s.abortJob c j st).trig = s.trig ∧ (s.abortJob c j st).port = s.port ∧
    (s.abortJob c j st).command = s.command ∧ (s.abortJob c j st).resetHeld = s.resetHeld ∧
    (s.abortJob c j st).freeIndex = s.freeIndex ∧ (s.abortJob c j st).pending = s.pending ∧
    (s.abortJob c j st).wire = s.wire ∧
    (s.abortJob c j st).scan.staging = s.scan.staging ∧
    (s.abortJob c j st).scan.image = s.scan.image ∧
    (s.abortJob c j st).scan.cycle = s.scan.cycle ∧
    (s.abortJob c j st).scan.overrun = s.scan.overrun ∧
    (s.abortJob c j st).scan.due = s.scan.due ∧ (s.abortJob c j st).scan.source = s.scan.source ∧
    (s.abortJob c j st).scan.edge = s.scan.edge ∧
    (s.abortJob c j st).results.watermark = s.results.watermark ∧
    (s.abortJob c j st).results.snapshot = s.results.snapshot ∧
    (s.abortJob c j st).results.current = s.results.current ∧
    (s.abortJob c j st).events.enable = s.events.enable := by
  unfold State.abortJob; split <;> simp

@[simp] theorem State.withdraw_frame (s : State) (c : CellId) (w : Work) :
    (s.withdraw c w).cells = s.cells ∧ (s.withdraw c w).dispatch = s.dispatch ∧
    (s.withdraw c w).profiles = s.profiles ∧ (s.withdraw c w).channels = s.channels ∧
    (s.withdraw c w).references = s.references ∧ (s.withdraw c w).results = s.results ∧
    (s.withdraw c w).windows = s.windows ∧ (s.withdraw c w).timebase = s.timebase ∧
    (s.withdraw c w).timer = s.timer ∧ (s.withdraw c w).trig = s.trig ∧
    (s.withdraw c w).events = s.events ∧ (s.withdraw c w).port = s.port ∧
    (s.withdraw c w).command = s.command ∧ (s.withdraw c w).resetHeld = s.resetHeld ∧
    (s.withdraw c w).freeIndex = s.freeIndex ∧ (s.withdraw c w).pending = s.pending ∧
    (s.withdraw c w).wire = s.wire ∧
    (s.withdraw c w).scan.staging = s.scan.staging ∧
    (s.withdraw c w).scan.active = s.scan.active ∧ (s.withdraw c w).scan.image = s.scan.image ∧
    (s.withdraw c w).scan.state = s.scan.state ∧ (s.withdraw c w).scan.single = s.scan.single ∧
    (s.withdraw c w).scan.cycle = s.scan.cycle ∧ (s.withdraw c w).scan.overrun = s.scan.overrun ∧
    (s.withdraw c w).scan.commitPending = s.scan.commitPending ∧
    (s.withdraw c w).scan.source = s.scan.source ∧ (s.withdraw c w).scan.edge = s.scan.edge ∧
    (s.withdraw c w).requests.image = s.requests.image := by
  unfold State.withdraw; split <;> simp

@[simp] theorem State.completeAtDispatch_frame
    (s : State) (c : CellId) (j : Job) (st : RecordStatus) :
    (s.completeAtDispatch c j st).cells = s.cells ∧
    (s.completeAtDispatch c j st).profiles = s.profiles ∧
    (s.completeAtDispatch c j st).channels = s.channels ∧
    (s.completeAtDispatch c j st).requests = s.requests ∧
    (s.completeAtDispatch c j st).references = s.references ∧
    (s.completeAtDispatch c j st).timebase = s.timebase ∧
    (s.completeAtDispatch c j st).trig = s.trig ∧ (s.completeAtDispatch c j st).port = s.port ∧
    (s.completeAtDispatch c j st).command = s.command ∧
    (s.completeAtDispatch c j st).resetHeld = s.resetHeld ∧
    (s.completeAtDispatch c j st).freeIndex = s.freeIndex ∧
    (s.completeAtDispatch c j st).pending = s.pending ∧
    (s.completeAtDispatch c j st).wire = s.wire ∧
    (s.completeAtDispatch c j st).scan.staging = s.scan.staging ∧
    (s.completeAtDispatch c j st).scan.image = s.scan.image ∧
    (s.completeAtDispatch c j st).scan.cycle = s.scan.cycle ∧
    (s.completeAtDispatch c j st).scan.overrun = s.scan.overrun ∧
    (s.completeAtDispatch c j st).scan.due = s.scan.due ∧
    (s.completeAtDispatch c j st).scan.source = s.scan.source ∧
    (s.completeAtDispatch c j st).scan.edge = s.scan.edge ∧
    (s.completeAtDispatch c j st).results.watermark = s.results.watermark ∧
    (s.completeAtDispatch c j st).results.snapshot = s.results.snapshot ∧
    (s.completeAtDispatch c j st).results.current = s.results.current ∧
    (s.completeAtDispatch c j st).events.enable = s.events.enable := by
  simp [State.completeAtDispatch]

@[simp] theorem State.spendUse_frame (s : State) (c : CellId) (p : Fin 4) :
    (s.spendUse c p).cells = s.cells ∧ (s.spendUse c p).dispatch = s.dispatch ∧
    (s.spendUse c p).profiles = s.profiles ∧ (s.spendUse c p).channels = s.channels ∧
    (s.spendUse c p).scan = s.scan ∧ (s.spendUse c p).requests = s.requests ∧
    (s.spendUse c p).results = s.results ∧ (s.spendUse c p).windows = s.windows ∧
    (s.spendUse c p).timebase = s.timebase ∧ (s.spendUse c p).timer = s.timer ∧
    (s.spendUse c p).trig = s.trig ∧ (s.spendUse c p).events = s.events ∧
    (s.spendUse c p).port = s.port ∧ (s.spendUse c p).command = s.command ∧
    (s.spendUse c p).resetHeld = s.resetHeld ∧ (s.spendUse c p).freeIndex = s.freeIndex ∧
    (s.spendUse c p).pending = s.pending ∧
    (s.spendUse c p).wire = s.wire := by
  simp [State.spendUse]

@[simp] theorem State.dispatchWork_frame (s : State) (c : CellId) (w : Work) (v : Judgement) :
    (s.dispatchWork c w v).profiles = s.profiles ∧ (s.dispatchWork c w v).channels = s.channels ∧
    (s.dispatchWork c w v).timebase = s.timebase ∧ (s.dispatchWork c w v).trig = s.trig ∧
    (s.dispatchWork c w v).port = s.port ∧ (s.dispatchWork c w v).command = s.command ∧
    (s.dispatchWork c w v).resetHeld = s.resetHeld ∧
    (s.dispatchWork c w v).freeIndex = s.freeIndex ∧ (s.dispatchWork c w v).pending = s.pending ∧
    (s.dispatchWork c w v).wire = s.wire ∧
    (s.dispatchWork c w v).scan.staging = s.scan.staging ∧
    (s.dispatchWork c w v).scan.image = s.scan.image ∧
    (s.dispatchWork c w v).scan.cycle = s.scan.cycle ∧
    (s.dispatchWork c w v).scan.overrun = s.scan.overrun ∧
    (s.dispatchWork c w v).scan.source = s.scan.source ∧
    (s.dispatchWork c w v).scan.edge = s.scan.edge ∧
    (s.dispatchWork c w v).requests.image = s.requests.image ∧
    (s.dispatchWork c w v).results.watermark = s.results.watermark ∧
    (s.dispatchWork c w v).results.snapshot = s.results.snapshot ∧
    (s.dispatchWork c w v).results.current = s.results.current ∧
    (s.dispatchWork c w v).events.enable = s.events.enable := by
  unfold State.dispatchWork; split <;> simp

@[simp] theorem State.attempt_frame (s : State) (c : CellId) :
    (s.attempt c).profiles = s.profiles ∧ (s.attempt c).channels = s.channels ∧
    (s.attempt c).timebase = s.timebase ∧ (s.attempt c).trig = s.trig ∧
    (s.attempt c).port = s.port ∧ (s.attempt c).command = s.command ∧
    (s.attempt c).resetHeld = s.resetHeld ∧ (s.attempt c).freeIndex = s.freeIndex ∧
    (s.attempt c).pending = s.pending ∧
    (s.attempt c).wire = s.wire ∧ (s.attempt c).scan.staging = s.scan.staging ∧
    (s.attempt c).scan.image = s.scan.image ∧ (s.attempt c).scan.cycle = s.scan.cycle ∧
    (s.attempt c).scan.overrun = s.scan.overrun ∧ (s.attempt c).scan.source = s.scan.source ∧
    (s.attempt c).scan.edge = s.scan.edge ∧ (s.attempt c).requests.image = s.requests.image ∧
    (s.attempt c).results.watermark = s.results.watermark ∧
    (s.attempt c).results.snapshot = s.results.snapshot ∧
    (s.attempt c).results.current = s.results.current ∧
    (s.attempt c).events.enable = s.events.enable := by
  unfold State.attempt; dsimp only; (repeat' split) <;> simp

@[simp] theorem State.recheck_frame (s : State) (c : CellId) (j : Job) :
    (s.recheck c j).profiles = s.profiles ∧ (s.recheck c j).channels = s.channels ∧
    (s.recheck c j).requests = s.requests ∧ (s.recheck c j).references = s.references ∧
    (s.recheck c j).timebase = s.timebase ∧ (s.recheck c j).trig = s.trig ∧
    (s.recheck c j).port = s.port ∧ (s.recheck c j).command = s.command ∧
    (s.recheck c j).resetHeld = s.resetHeld ∧ (s.recheck c j).freeIndex = s.freeIndex ∧
    (s.recheck c j).pending = s.pending ∧
    (s.recheck c j).wire = s.wire ∧ (s.recheck c j).scan.staging = s.scan.staging ∧
    (s.recheck c j).scan.image = s.scan.image ∧ (s.recheck c j).scan.cycle = s.scan.cycle ∧
    (s.recheck c j).scan.overrun = s.scan.overrun ∧ (s.recheck c j).scan.due = s.scan.due ∧
    (s.recheck c j).scan.source = s.scan.source ∧ (s.recheck c j).scan.edge = s.scan.edge ∧
    (s.recheck c j).results.watermark = s.results.watermark ∧
    (s.recheck c j).results.snapshot = s.results.snapshot ∧
    (s.recheck c j).results.current = s.results.current ∧
    (s.recheck c j).events.enable = s.events.enable := by
  unfold State.recheck; dsimp only; (repeat' split) <;> simp

@[simp] theorem State.gateExpiry_frame (s : State) (c : CellId) :
    (s.gateExpiry c).profiles = s.profiles ∧ (s.gateExpiry c).requests = s.requests ∧
    (s.gateExpiry c).timebase = s.timebase ∧ (s.gateExpiry c).trig = s.trig ∧
    (s.gateExpiry c).port = s.port ∧ (s.gateExpiry c).command = s.command ∧
    (s.gateExpiry c).resetHeld = s.resetHeld ∧ (s.gateExpiry c).freeIndex = s.freeIndex ∧
    (s.gateExpiry c).pending = s.pending ∧
    (s.gateExpiry c).wire = s.wire ∧
    (s.gateExpiry c).channels.threshold = s.channels.threshold ∧
    (s.gateExpiry c).scan.staging = s.scan.staging ∧ (s.gateExpiry c).scan.image = s.scan.image ∧
    (s.gateExpiry c).scan.cycle = s.scan.cycle ∧ (s.gateExpiry c).scan.overrun = s.scan.overrun ∧
    (s.gateExpiry c).scan.due = s.scan.due ∧ (s.gateExpiry c).scan.source = s.scan.source ∧
    (s.gateExpiry c).scan.edge = s.scan.edge ∧
    (s.gateExpiry c).results.watermark = s.results.watermark ∧
    (s.gateExpiry c).results.snapshot = s.results.snapshot ∧
    (s.gateExpiry c).results.current = s.results.current ∧
    (s.gateExpiry c).events.enable = s.events.enable := by
  unfold State.gateExpiry; split <;> simp

@[simp] theorem State.prechargeExpiry_frame (s : State) (c : CellId) :
    (s.prechargeExpiry c).profiles = s.profiles ∧ (s.prechargeExpiry c).requests = s.requests ∧
    (s.prechargeExpiry c).timebase = s.timebase ∧ (s.prechargeExpiry c).trig = s.trig ∧
    (s.prechargeExpiry c).port = s.port ∧ (s.prechargeExpiry c).command = s.command ∧
    (s.prechargeExpiry c).resetHeld = s.resetHeld ∧
    (s.prechargeExpiry c).freeIndex = s.freeIndex ∧ (s.prechargeExpiry c).pending = s.pending ∧
    (s.prechargeExpiry c).wire = s.wire ∧
    (s.prechargeExpiry c).channels.threshold = s.channels.threshold ∧
    (s.prechargeExpiry c).scan.staging = s.scan.staging ∧
    (s.prechargeExpiry c).scan.image = s.scan.image ∧
    (s.prechargeExpiry c).scan.cycle = s.scan.cycle ∧
    (s.prechargeExpiry c).scan.overrun = s.scan.overrun ∧
    (s.prechargeExpiry c).scan.due = s.scan.due ∧
    (s.prechargeExpiry c).scan.source = s.scan.source ∧
    (s.prechargeExpiry c).scan.edge = s.scan.edge ∧
    (s.prechargeExpiry c).results.watermark = s.results.watermark ∧
    (s.prechargeExpiry c).results.snapshot = s.results.snapshot ∧
    (s.prechargeExpiry c).results.current = s.results.current ∧
    (s.prechargeExpiry c).events.enable = s.events.enable := by
  unfold State.prechargeExpiry; split <;> simp

@[simp] theorem State.periodOverflow_frame (s : State) (c : CellId) :
    (s.periodOverflow c).profiles = s.profiles ∧ (s.periodOverflow c).requests = s.requests ∧
    (s.periodOverflow c).timebase = s.timebase ∧ (s.periodOverflow c).trig = s.trig ∧
    (s.periodOverflow c).port = s.port ∧ (s.periodOverflow c).command = s.command ∧
    (s.periodOverflow c).resetHeld = s.resetHeld ∧ (s.periodOverflow c).freeIndex = s.freeIndex ∧
    (s.periodOverflow c).pending = s.pending ∧
    (s.periodOverflow c).wire = s.wire ∧
    (s.periodOverflow c).channels.threshold = s.channels.threshold ∧
    (s.periodOverflow c).scan.staging = s.scan.staging ∧
    (s.periodOverflow c).scan.image = s.scan.image ∧
    (s.periodOverflow c).scan.cycle = s.scan.cycle ∧
    (s.periodOverflow c).scan.overrun = s.scan.overrun ∧
    (s.periodOverflow c).scan.due = s.scan.due ∧
    (s.periodOverflow c).scan.source = s.scan.source ∧
    (s.periodOverflow c).scan.edge = s.scan.edge ∧
    (s.periodOverflow c).results.watermark = s.results.watermark ∧
    (s.periodOverflow c).results.snapshot = s.results.snapshot ∧
    (s.periodOverflow c).results.current = s.results.current ∧
    (s.periodOverflow c).events.enable = s.events.enable := by
  unfold State.periodOverflow; split <;> simp

@[simp] theorem State.stallExpiry_frame (s : State) (c : CellId) :
    (s.stallExpiry c).profiles = s.profiles ∧ (s.stallExpiry c).requests = s.requests ∧
    (s.stallExpiry c).timebase = s.timebase ∧ (s.stallExpiry c).trig = s.trig ∧
    (s.stallExpiry c).port = s.port ∧ (s.stallExpiry c).command = s.command ∧
    (s.stallExpiry c).resetHeld = s.resetHeld ∧ (s.stallExpiry c).freeIndex = s.freeIndex ∧
    (s.stallExpiry c).pending = s.pending ∧
    (s.stallExpiry c).wire = s.wire ∧
    (s.stallExpiry c).channels.threshold = s.channels.threshold ∧
    (s.stallExpiry c).scan.staging = s.scan.staging ∧
    (s.stallExpiry c).scan.image = s.scan.image ∧ (s.stallExpiry c).scan.cycle = s.scan.cycle ∧
    (s.stallExpiry c).scan.overrun = s.scan.overrun ∧ (s.stallExpiry c).scan.due = s.scan.due ∧
    (s.stallExpiry c).scan.source = s.scan.source ∧ (s.stallExpiry c).scan.edge = s.scan.edge ∧
    (s.stallExpiry c).results.watermark = s.results.watermark ∧
    (s.stallExpiry c).results.snapshot = s.results.snapshot ∧
    (s.stallExpiry c).results.current = s.results.current ∧
    (s.stallExpiry c).events.enable = s.events.enable := by
  unfold State.stallExpiry; split <;> simp

@[simp] theorem State.restExpiry_frame (s : State) (c : CellId) :
    (s.restExpiry c).profiles = s.profiles ∧ (s.restExpiry c).channels = s.channels ∧
    (s.restExpiry c).requests = s.requests ∧ (s.restExpiry c).references = s.references ∧
    (s.restExpiry c).timebase = s.timebase ∧ (s.restExpiry c).trig = s.trig ∧
    (s.restExpiry c).port = s.port ∧ (s.restExpiry c).command = s.command ∧
    (s.restExpiry c).resetHeld = s.resetHeld ∧ (s.restExpiry c).freeIndex = s.freeIndex ∧
    (s.restExpiry c).pending = s.pending ∧
    (s.restExpiry c).wire = s.wire ∧ (s.restExpiry c).scan.staging = s.scan.staging ∧
    (s.restExpiry c).scan.image = s.scan.image ∧ (s.restExpiry c).scan.cycle = s.scan.cycle ∧
    (s.restExpiry c).scan.overrun = s.scan.overrun ∧ (s.restExpiry c).scan.due = s.scan.due ∧
    (s.restExpiry c).scan.source = s.scan.source ∧ (s.restExpiry c).scan.edge = s.scan.edge ∧
    (s.restExpiry c).results.watermark = s.results.watermark ∧
    (s.restExpiry c).results.snapshot = s.results.snapshot ∧
    (s.restExpiry c).results.current = s.results.current ∧
    (s.restExpiry c).events.enable = s.events.enable := by
  unfold State.restExpiry; dsimp only; (repeat' split) <;> simp

@[simp] theorem State.intervalTick_frame (s : State) :
    (s.intervalTick).cells = s.cells ∧ (s.intervalTick).dispatch = s.dispatch ∧
    (s.intervalTick).profiles = s.profiles ∧ (s.intervalTick).channels = s.channels ∧
    (s.intervalTick).scan = s.scan ∧ (s.intervalTick).requests = s.requests ∧
    (s.intervalTick).references = s.references ∧ (s.intervalTick).results = s.results ∧
    (s.intervalTick).windows = s.windows ∧ (s.intervalTick).trig = s.trig ∧
    (s.intervalTick).events = s.events ∧ (s.intervalTick).port = s.port ∧
    (s.intervalTick).command = s.command ∧ (s.intervalTick).resetHeld = s.resetHeld ∧
    (s.intervalTick).freeIndex = s.freeIndex ∧ (s.intervalTick).pending = s.pending ∧
    (s.intervalTick).wire = s.wire ∧
    (s.intervalTick).timebase.prescale = s.timebase.prescale ∧
    (s.intervalTick).timebase.divider = s.timebase.divider ∧
    (s.intervalTick).timebase.latch = s.timebase.latch ∧
    (s.intervalTick).timer.running = s.timer.running ∧
    (s.intervalTick).timer.period = s.timer.period ∧
    (s.intervalTick).timer.pendingPeriod = s.timer.pendingPeriod := by
  unfold State.intervalTick; split <;> simp

@[simp] theorem State.scanTimerExpiry_frame (s : State) :
    (s.scanTimerExpiry).cells = s.cells ∧ (s.scanTimerExpiry).profiles = s.profiles ∧
    (s.scanTimerExpiry).channels = s.channels ∧ (s.scanTimerExpiry).requests = s.requests ∧
    (s.scanTimerExpiry).references = s.references ∧ (s.scanTimerExpiry).results = s.results ∧
    (s.scanTimerExpiry).timebase = s.timebase ∧ (s.scanTimerExpiry).trig = s.trig ∧
    (s.scanTimerExpiry).port = s.port ∧ (s.scanTimerExpiry).command = s.command ∧
    (s.scanTimerExpiry).resetHeld = s.resetHeld ∧ (s.scanTimerExpiry).freeIndex = s.freeIndex ∧
    (s.scanTimerExpiry).pending = s.pending ∧
    (s.scanTimerExpiry).wire = s.wire ∧ (s.scanTimerExpiry).scan.staging = s.scan.staging ∧
    (s.scanTimerExpiry).scan.image = s.scan.image ∧
    (s.scanTimerExpiry).scan.jobsInFlight = s.scan.jobsInFlight ∧
    (s.scanTimerExpiry).scan.source = s.scan.source ∧
    (s.scanTimerExpiry).scan.edge = s.scan.edge ∧
    (s.scanTimerExpiry).events.enable = s.events.enable := by
  unfold State.scanTimerExpiry; split <;> simp

@[simp] theorem State.trigEdge_frame (s : State) :
    (s.trigEdge).cells = s.cells ∧ (s.trigEdge).profiles = s.profiles ∧
    (s.trigEdge).channels = s.channels ∧ (s.trigEdge).requests = s.requests ∧
    (s.trigEdge).references = s.references ∧ (s.trigEdge).results = s.results ∧
    (s.trigEdge).timebase = s.timebase ∧ (s.trigEdge).port = s.port ∧
    (s.trigEdge).command = s.command ∧ (s.trigEdge).resetHeld = s.resetHeld ∧
    (s.trigEdge).freeIndex = s.freeIndex ∧ (s.trigEdge).pending = s.pending ∧
    (s.trigEdge).wire = s.wire ∧
    (s.trigEdge).scan.staging = s.scan.staging ∧ (s.trigEdge).scan.image = s.scan.image ∧
    (s.trigEdge).scan.jobsInFlight = s.scan.jobsInFlight ∧
    (s.trigEdge).scan.source = s.scan.source ∧ (s.trigEdge).scan.edge = s.scan.edge ∧
    (s.trigEdge).events.enable = s.events.enable := by
  unfold State.trigEdge; dsimp only; (repeat' split) <;> simp

@[simp] theorem State.takeArrival_frame (s : State) (a : Arrival) :
    (s.takeArrival a).profiles = s.profiles ∧ (s.takeArrival a).port = s.port ∧
    (s.takeArrival a).command = s.command ∧ (s.takeArrival a).resetHeld = s.resetHeld ∧
    (s.takeArrival a).freeIndex = s.freeIndex ∧ (s.takeArrival a).pending = s.pending ∧
    (s.takeArrival a).wire = s.wire ∧
    (s.takeArrival a).channels.threshold = s.channels.threshold ∧
    (s.takeArrival a).scan.staging = s.scan.staging ∧
    (s.takeArrival a).scan.image = s.scan.image ∧ (s.takeArrival a).scan.source = s.scan.source ∧
    (s.takeArrival a).scan.edge = s.scan.edge ∧
    (s.takeArrival a).requests.image = s.requests.image ∧
    (s.takeArrival a).results.watermark = s.results.watermark ∧
    (s.takeArrival a).results.snapshot = s.results.snapshot ∧
    (s.takeArrival a).results.current = s.results.current ∧
    (s.takeArrival a).timebase.prescale = s.timebase.prescale ∧
    (s.takeArrival a).timebase.divider = s.timebase.divider ∧
    (s.takeArrival a).timebase.latch = s.timebase.latch ∧
    (s.takeArrival a).events.enable = s.events.enable := by
  unfold State.takeArrival; split <;> simp

@[simp] theorem State.countTick_frame (s : State) (l : Level) :
    (s.countTick l).dispatch = s.dispatch ∧ (s.countTick l).profiles = s.profiles ∧
    (s.countTick l).channels = s.channels ∧ (s.countTick l).scan = s.scan ∧
    (s.countTick l).requests = s.requests ∧ (s.countTick l).references = s.references ∧
    (s.countTick l).results = s.results ∧ (s.countTick l).windows = s.windows ∧
    (s.countTick l).timer = s.timer ∧ (s.countTick l).events = s.events ∧
    (s.countTick l).port = s.port ∧ (s.countTick l).command = s.command ∧
    (s.countTick l).resetHeld = s.resetHeld ∧ (s.countTick l).freeIndex = s.freeIndex ∧
    (s.countTick l).pending = s.pending ∧
    (s.countTick l).wire = s.wire ∧
    (s.countTick l).timebase.prescale = s.timebase.prescale ∧
    (s.countTick l).timebase.divider = s.timebase.divider ∧
    (s.countTick l).timebase.counter = s.timebase.counter ∧
    (s.countTick l).timebase.latch = s.timebase.latch := by
  simp [State.countTick]

@[simp] theorem State.upperCrossing_frame (s : State) (c : CellId) :
    (s.upperCrossing c).dispatch = s.dispatch ∧ (s.upperCrossing c).profiles = s.profiles ∧
    (s.upperCrossing c).channels = s.channels ∧ (s.upperCrossing c).scan = s.scan ∧
    (s.upperCrossing c).requests = s.requests ∧ (s.upperCrossing c).references = s.references ∧
    (s.upperCrossing c).results = s.results ∧ (s.upperCrossing c).windows = s.windows ∧
    (s.upperCrossing c).timebase = s.timebase ∧ (s.upperCrossing c).timer = s.timer ∧
    (s.upperCrossing c).trig = s.trig ∧ (s.upperCrossing c).events = s.events ∧
    (s.upperCrossing c).port = s.port ∧ (s.upperCrossing c).command = s.command ∧
    (s.upperCrossing c).resetHeld = s.resetHeld ∧ (s.upperCrossing c).freeIndex = s.freeIndex ∧
    (s.upperCrossing c).pending = s.pending ∧
    (s.upperCrossing c).wire = s.wire := by
  simp [State.upperCrossing]

@[simp] theorem State.lowerCrossing_frame (s : State) (c : CellId) :
    (s.lowerCrossing c).profiles = s.profiles ∧ (s.lowerCrossing c).requests = s.requests ∧
    (s.lowerCrossing c).timebase = s.timebase ∧ (s.lowerCrossing c).trig = s.trig ∧
    (s.lowerCrossing c).port = s.port ∧ (s.lowerCrossing c).command = s.command ∧
    (s.lowerCrossing c).resetHeld = s.resetHeld ∧ (s.lowerCrossing c).freeIndex = s.freeIndex ∧
    (s.lowerCrossing c).pending = s.pending ∧
    (s.lowerCrossing c).wire = s.wire ∧
    (s.lowerCrossing c).channels.threshold = s.channels.threshold ∧
    (s.lowerCrossing c).scan.staging = s.scan.staging ∧
    (s.lowerCrossing c).scan.image = s.scan.image ∧
    (s.lowerCrossing c).scan.cycle = s.scan.cycle ∧
    (s.lowerCrossing c).scan.overrun = s.scan.overrun ∧
    (s.lowerCrossing c).scan.due = s.scan.due ∧ (s.lowerCrossing c).scan.source = s.scan.source ∧
    (s.lowerCrossing c).scan.edge = s.scan.edge ∧
    (s.lowerCrossing c).results.watermark = s.results.watermark ∧
    (s.lowerCrossing c).results.snapshot = s.results.snapshot ∧
    (s.lowerCrossing c).results.current = s.results.current ∧
    (s.lowerCrossing c).events.enable = s.events.enable := by
  simp [State.lowerCrossing]

@[simp] theorem State.commitApply_frame (s : State) :
    (s.commitApply).cells = s.cells ∧ (s.commitApply).dispatch = s.dispatch ∧
    (s.commitApply).profiles = s.profiles ∧ (s.commitApply).channels = s.channels ∧
    (s.commitApply).requests = s.requests ∧ (s.commitApply).references = s.references ∧
    (s.commitApply).results = s.results ∧ (s.commitApply).timebase = s.timebase ∧
    (s.commitApply).timer = s.timer ∧ (s.commitApply).trig = s.trig ∧
    (s.commitApply).port = s.port ∧ (s.commitApply).command = s.command ∧
    (s.commitApply).resetHeld = s.resetHeld ∧ (s.commitApply).freeIndex = s.freeIndex ∧
    (s.commitApply).pending = s.pending ∧
    (s.commitApply).wire = s.wire ∧ (s.commitApply).scan.staging = s.scan.staging ∧
    (s.commitApply).scan.image = s.scan.image ∧ (s.commitApply).scan.state = s.scan.state ∧
    (s.commitApply).scan.single = s.scan.single ∧ (s.commitApply).scan.cycle = s.scan.cycle ∧
    (s.commitApply).scan.overrun = s.scan.overrun ∧ (s.commitApply).scan.due = s.scan.due ∧
    (s.commitApply).scan.jobsInFlight = s.scan.jobsInFlight ∧
    (s.commitApply).scan.source = s.scan.source ∧ (s.commitApply).scan.edge = s.scan.edge ∧
    (s.commitApply).events.enable = s.events.enable := by
  unfold State.commitApply; split <;> simp

@[simp] theorem State.disableCell_frame (s : State) (c : CellId) :
    (s.disableCell c).profiles = s.profiles ∧ (s.disableCell c).channels = s.channels ∧
    (s.disableCell c).requests = s.requests ∧ (s.disableCell c).timebase = s.timebase ∧
    (s.disableCell c).trig = s.trig ∧ (s.disableCell c).port = s.port ∧
    (s.disableCell c).command = s.command ∧ (s.disableCell c).resetHeld = s.resetHeld ∧
    (s.disableCell c).freeIndex = s.freeIndex ∧ (s.disableCell c).pending = s.pending ∧
    (s.disableCell c).wire = s.wire ∧
    (s.disableCell c).scan.staging = s.scan.staging ∧
    (s.disableCell c).scan.image = s.scan.image ∧ (s.disableCell c).scan.cycle = s.scan.cycle ∧
    (s.disableCell c).scan.overrun = s.scan.overrun ∧
    (s.disableCell c).scan.source = s.scan.source ∧ (s.disableCell c).scan.edge = s.scan.edge ∧
    (s.disableCell c).results.watermark = s.results.watermark ∧
    (s.disableCell c).results.snapshot = s.results.snapshot ∧
    (s.disableCell c).results.current = s.results.current ∧
    (s.disableCell c).events.enable = s.events.enable := by
  unfold State.disableCell; dsimp only; (repeat' split) <;> simp

@[simp] theorem State.setEnabled_frame (s : State) (ch : Fin 10) (e : Bool) :
    (s.setEnabled ch e).cells = s.cells ∧ (s.setEnabled ch e).profiles = s.profiles ∧
    (s.setEnabled ch e).scan = s.scan ∧ (s.setEnabled ch e).requests = s.requests ∧
    (s.setEnabled ch e).results = s.results ∧ (s.setEnabled ch e).windows = s.windows ∧
    (s.setEnabled ch e).timebase = s.timebase ∧ (s.setEnabled ch e).timer = s.timer ∧
    (s.setEnabled ch e).trig = s.trig ∧ (s.setEnabled ch e).events = s.events ∧
    (s.setEnabled ch e).port = s.port ∧ (s.setEnabled ch e).command = s.command ∧
    (s.setEnabled ch e).resetHeld = s.resetHeld ∧ (s.setEnabled ch e).freeIndex = s.freeIndex ∧
    (s.setEnabled ch e).pending = s.pending ∧
    (s.setEnabled ch e).wire = s.wire ∧
    (s.setEnabled ch e).channels.threshold = s.channels.threshold := by
  unfold State.setEnabled; dsimp only; (repeat' split) <;> simp

@[simp] theorem State.setEnabled_keeps_job (s : State) (ch : Fin 10) (e : Bool) (d : CellId) :
    (s.setEnabled ch e).job d = s.job d := by
  unfold State.setEnabled; dsimp only; (repeat' split) <;> simp

@[simp] theorem State.clearFault_frame (s : State) (ch : Fin 10) :
    (s.clearFault ch).cells = s.cells ∧ (s.clearFault ch).profiles = s.profiles ∧
    (s.clearFault ch).scan = s.scan ∧ (s.clearFault ch).requests = s.requests ∧
    (s.clearFault ch).references = s.references ∧ (s.clearFault ch).results = s.results ∧
    (s.clearFault ch).windows = s.windows ∧ (s.clearFault ch).timebase = s.timebase ∧
    (s.clearFault ch).timer = s.timer ∧ (s.clearFault ch).trig = s.trig ∧
    (s.clearFault ch).events = s.events ∧ (s.clearFault ch).port = s.port ∧
    (s.clearFault ch).command = s.command ∧ (s.clearFault ch).resetHeld = s.resetHeld ∧
    (s.clearFault ch).freeIndex = s.freeIndex ∧ (s.clearFault ch).pending = s.pending ∧
    (s.clearFault ch).wire = s.wire ∧
    (s.clearFault ch).channels.threshold = s.channels.threshold := by
  unfold State.clearFault; dsimp only; (repeat' split) <;> simp

@[simp] theorem State.clearFault_keeps_job (s : State) (ch : Fin 10) (d : CellId) :
    (s.clearFault ch).job d = s.job d := by
  unfold State.clearFault; dsimp only; (repeat' split) <;> simp

@[simp] theorem State.setTimebase_frame (s : State) (p : Prescale) (n : BitVec 16) :
    (s.setTimebase p n).cells = s.cells ∧ (s.setTimebase p n).dispatch = s.dispatch ∧
    (s.setTimebase p n).profiles = s.profiles ∧ (s.setTimebase p n).channels = s.channels ∧
    (s.setTimebase p n).scan = s.scan ∧ (s.setTimebase p n).requests = s.requests ∧
    (s.setTimebase p n).results = s.results ∧ (s.setTimebase p n).windows = s.windows ∧
    (s.setTimebase p n).timer = s.timer ∧ (s.setTimebase p n).events = s.events ∧
    (s.setTimebase p n).port = s.port ∧ (s.setTimebase p n).command = s.command ∧
    (s.setTimebase p n).resetHeld = s.resetHeld ∧ (s.setTimebase p n).freeIndex = s.freeIndex ∧
    (s.setTimebase p n).pending = s.pending ∧
    (s.setTimebase p n).wire = s.wire ∧
    (s.setTimebase p n).timebase.counter = s.timebase.counter ∧
    (s.setTimebase p n).timebase.latch = s.timebase.latch := by
  simp [State.setTimebase]

@[simp] theorem State.handPeriod_frame (s : State) (n : BitVec 16) :
    (s.handPeriod n).cells = s.cells ∧ (s.handPeriod n).dispatch = s.dispatch ∧
    (s.handPeriod n).profiles = s.profiles ∧ (s.handPeriod n).channels = s.channels ∧
    (s.handPeriod n).scan = s.scan ∧ (s.handPeriod n).requests = s.requests ∧
    (s.handPeriod n).references = s.references ∧ (s.handPeriod n).results = s.results ∧
    (s.handPeriod n).windows = s.windows ∧ (s.handPeriod n).timebase = s.timebase ∧
    (s.handPeriod n).trig = s.trig ∧ (s.handPeriod n).events = s.events ∧
    (s.handPeriod n).port = s.port ∧ (s.handPeriod n).command = s.command ∧
    (s.handPeriod n).resetHeld = s.resetHeld ∧ (s.handPeriod n).freeIndex = s.freeIndex ∧
    (s.handPeriod n).pending = s.pending ∧
    (s.handPeriod n).wire = s.wire ∧ (s.handPeriod n).timer.running = s.timer.running := by
  unfold State.handPeriod; split <;> simp

@[simp] theorem State.startScan_frame (s : State) :
    (s.startScan).cells = s.cells ∧ (s.startScan).dispatch = s.dispatch ∧
    (s.startScan).profiles = s.profiles ∧ (s.startScan).channels = s.channels ∧
    (s.startScan).requests = s.requests ∧ (s.startScan).references = s.references ∧
    (s.startScan).results = s.results ∧ (s.startScan).windows = s.windows ∧
    (s.startScan).timebase = s.timebase ∧ (s.startScan).trig = s.trig ∧
    (s.startScan).events = s.events ∧ (s.startScan).port = s.port ∧
    (s.startScan).command = s.command ∧ (s.startScan).resetHeld = s.resetHeld ∧
    (s.startScan).freeIndex = s.freeIndex ∧ (s.startScan).pending = s.pending ∧
    (s.startScan).wire = s.wire ∧
    (s.startScan).scan.staging = s.scan.staging ∧ (s.startScan).scan.active = s.scan.active ∧
    (s.startScan).scan.image = s.scan.image ∧ (s.startScan).scan.cycle = s.scan.cycle ∧
    (s.startScan).scan.commitPending = s.scan.commitPending ∧
    (s.startScan).scan.due = s.scan.due ∧ (s.startScan).scan.jobsInFlight = s.scan.jobsInFlight ∧
    (s.startScan).scan.source = s.scan.source ∧ (s.startScan).scan.edge = s.scan.edge ∧
    (s.startScan).timer.period = s.timer.period ∧
    (s.startScan).timer.pendingPeriod = s.timer.pendingPeriod := by
  unfold State.startScan; split <;> simp

@[simp] theorem State.stopScan_frame (s : State) :
    (s.stopScan).cells = s.cells ∧ (s.stopScan).dispatch = s.dispatch ∧
    (s.stopScan).profiles = s.profiles ∧ (s.stopScan).channels = s.channels ∧
    (s.stopScan).requests = s.requests ∧ (s.stopScan).references = s.references ∧
    (s.stopScan).results = s.results ∧ (s.stopScan).timebase = s.timebase ∧
    (s.stopScan).trig = s.trig ∧ (s.stopScan).port = s.port ∧ (s.stopScan).command = s.command ∧
    (s.stopScan).resetHeld = s.resetHeld ∧ (s.stopScan).freeIndex = s.freeIndex ∧
    (s.stopScan).pending = s.pending ∧
    (s.stopScan).wire = s.wire ∧ (s.stopScan).scan.staging = s.scan.staging ∧
    (s.stopScan).scan.image = s.scan.image ∧ (s.stopScan).scan.cycle = s.scan.cycle ∧
    (s.stopScan).scan.overrun = s.scan.overrun ∧
    (s.stopScan).scan.jobsInFlight = s.scan.jobsInFlight ∧
    (s.stopScan).scan.source = s.scan.source ∧ (s.stopScan).scan.edge = s.scan.edge ∧
    (s.stopScan).events.enable = s.events.enable := by
  unfold State.stopScan; dsimp only; (repeat' split) <;> simp

@[simp] theorem State.writeProfile_frame (s : State) (p : Fin 4) :
    (s.writeProfile p).cells = s.cells ∧ (s.writeProfile p).channels = s.channels ∧
    (s.writeProfile p).scan = s.scan ∧ (s.writeProfile p).requests = s.requests ∧
    (s.writeProfile p).results = s.results ∧ (s.writeProfile p).windows = s.windows ∧
    (s.writeProfile p).timebase = s.timebase ∧ (s.writeProfile p).timer = s.timer ∧
    (s.writeProfile p).trig = s.trig ∧ (s.writeProfile p).events = s.events ∧
    (s.writeProfile p).port = s.port ∧ (s.writeProfile p).command = s.command ∧
    (s.writeProfile p).resetHeld = s.resetHeld ∧ (s.writeProfile p).freeIndex = s.freeIndex ∧
    (s.writeProfile p).pending = s.pending ∧
    (s.writeProfile p).wire = s.wire := by
  simp [State.writeProfile]

@[simp] theorem State.submit_frame (s : State) (r : Request) :
    (s.submit r).cells = s.cells ∧ (s.submit r).profiles = s.profiles ∧
    (s.submit r).channels = s.channels ∧ (s.submit r).scan = s.scan ∧
    (s.submit r).references = s.references ∧ (s.submit r).results = s.results ∧
    (s.submit r).windows = s.windows ∧ (s.submit r).timebase = s.timebase ∧
    (s.submit r).timer = s.timer ∧ (s.submit r).trig = s.trig ∧ (s.submit r).events = s.events ∧
    (s.submit r).port = s.port ∧ (s.submit r).command = s.command ∧
    (s.submit r).resetHeld = s.resetHeld ∧ (s.submit r).freeIndex = s.freeIndex ∧
    (s.submit r).pending = s.pending ∧
    (s.submit r).wire = s.wire ∧ (s.submit r).requests.image = s.requests.image := by
  simp [State.submit]

@[simp] theorem State.cancelJob_frame (s : State) (tag : Byte) (c : CellId) :
    (s.cancelJob tag c).profiles = s.profiles ∧ (s.cancelJob tag c).channels = s.channels ∧
    (s.cancelJob tag c).requests = s.requests ∧ (s.cancelJob tag c).references = s.references ∧
    (s.cancelJob tag c).timebase = s.timebase ∧ (s.cancelJob tag c).trig = s.trig ∧
    (s.cancelJob tag c).port = s.port ∧ (s.cancelJob tag c).command = s.command ∧
    (s.cancelJob tag c).resetHeld = s.resetHeld ∧ (s.cancelJob tag c).freeIndex = s.freeIndex ∧
    (s.cancelJob tag c).pending = s.pending ∧
    (s.cancelJob tag c).wire = s.wire ∧
    (s.cancelJob tag c).results.watermark = s.results.watermark ∧
    (s.cancelJob tag c).events.enable = s.events.enable := by
  unfold State.cancelJob; (repeat' split) <;> simp

@[simp] theorem State.cancelJobs_frame (s : State) (tag : Byte) :
    (s.cancelJobs tag).profiles = s.profiles ∧ (s.cancelJobs tag).channels = s.channels ∧
    (s.cancelJobs tag).requests = s.requests ∧ (s.cancelJobs tag).references = s.references ∧
    (s.cancelJobs tag).timebase = s.timebase ∧ (s.cancelJobs tag).trig = s.trig ∧
    (s.cancelJobs tag).port = s.port ∧ (s.cancelJobs tag).command = s.command ∧
    (s.cancelJobs tag).resetHeld = s.resetHeld ∧ (s.cancelJobs tag).pending = s.pending ∧
    (s.cancelJobs tag).wire = s.wire ∧
    (s.cancelJobs tag).results.watermark = s.results.watermark ∧
    (s.cancelJobs tag).events.enable = s.events.enable := by
  unfold State.cancelJobs; split <;> simp

end Sys2Proof.Machine
end

