-- ==== Sys2Proof/Laws/Ops.lean ====
section
/-!
SUPPORT. Once for each shared operation: everything it does to the fields it moves.
-/
namespace Sys2Proof.Machine

section
variable (s : State) (c : CellId)

/-! ### Dispatch opportunities (R99) -/

theorem State.offer_cases :
    (s.idleFree c = true ∧ s.offer c = s.setOpportunity c true) ∨
    (s.idleFree c = false ∧ s.offer c = s) := by
  unfold State.offer; split <;> simp_all

theorem State.offer_opportunity (d : CellId) :
    (s.offer c).opportunity d = (s.opportunity d || (decide (d = c) && s.idleFree c)) := by
  rcases s.offer_cases c with ⟨h, e⟩ | ⟨h, e⟩ <;> rw [e] <;> by_cases hd : d = c <;>
    simp [h, hd, State.opportunity_setOpportunity]

@[simp] theorem State.idleFree_setOpportunity (d : CellId) (b : Bool) :
    (s.setOpportunity c b).idleFree d = s.idleFree d := by
  unfold State.idleFree; rw [State.job_setOpportunity]; rfl

theorem State.idleFree_iff :
    s.idleFree c = true ↔ (s.cell c).state = .idle ∧ s.job c = none := by simp [State.idleFree]

/-! ### Samples (R17, R18) -/

/-- A sample that is not the last is added up. -/
theorem Cell.completeSample_more {k : Cell} {o : Order} (raw : Nat)
    (h : k.samplesDone + 1 < o.m.toNat) : k.completeSample o raw =
      ({ k with accumulator := k.accumulator + raw, samplesDone := k.samplesDone + 1 }, none) := by
  simp [Cell.completeSample, h]

/-- The last sample ends the order OK with the mean. -/
theorem Cell.completeSample_last {k : Cell} {o : Order} (raw : Nat)
    (h : ¬ k.samplesDone + 1 < o.m.toNat) : k.completeSample o raw =
      ({ k with accumulator := k.accumulator + raw, samplesDone := k.samplesDone + 1 },
        some (.ok o.m.toNat ((k.accumulator + raw) / o.m.toNat))) := by
  simp [Cell.completeSample, h]

/-! ### A cell that moves by an event of its own -/

/-- Two cells at the same stage: the same order, and the same state unless both convert. -/
def Cell.SameStage (k' k : Cell) : Prop :=
  k'.order = k.order ∧
    (k'.state = k.state ∨ (k.state.converting = true ∧ k'.state.converting = true))

theorem Cell.SameStage.stageLegal {k' k : Cell} (h : k'.SameStage k) (j : Option Job)
    (hk : stageLegal k j = true) : stageLegal k' j = true := by
  obtain ⟨ho, hs | ⟨h1, h2⟩⟩ := h
  · cases j <;> simpa [Machine.stageLegal, ho, hs] using hk
  · cases j with
    | none => simp [Machine.stageLegal, h1] at hk
    | some j =>
      have : k.order.isSome = true := by
        by_contra hn
        have hr : k.state ≠ .resting := by rintro e; simp [e, CellState.converting] at h1
        simp [Machine.stageLegal, hn, hr] at hk
      simp [Machine.stageLegal, h2, ho, this]

theorem Cell.upperCrossing_sameStage (k : Cell) : k.upperCrossing.SameStage k := by
  unfold Cell.upperCrossing
  split
  · dsimp only; split <;> exact ⟨rfl, .inl rfl⟩
  · exact ⟨rfl, .inl rfl⟩

theorem Cell.completeSample_order (k : Cell) (o : Order) (raw : Nat) :
    (k.completeSample o raw).1.order = k.order ∧ (k.completeSample o raw).1.state = k.state := by
  unfold Cell.completeSample; dsimp only; split <;> exact ⟨rfl, rfl⟩

theorem Cell.beginSample_order (d : Nat) (o : Order) (k : Cell) :
    (k.beginSample d o).order = k.order ∧ (k.beginSample d o).state = k.state := by
  unfold Cell.beginSample; split <;> exact ⟨rfl, rfl⟩

theorem Cell.settleCrossing_order (d : Nat) (o : Order) (k : Cell) :
    (k.settleCrossing d o).order = k.order ∧
      ((k.settleCrossing d o).state = k.state ∨ (k.settleCrossing d o).state = .measuring) := by
  unfold Cell.settleCrossing Cell.endSettle
  dsimp only
  (repeat' split) <;> simp [Cell.beginSample_order]

theorem Cell.countCrossing_order (d : Nat) (o : Order) (k : Cell) :
    (k.countCrossing d o).1.order = k.order ∧ (k.countCrossing d o).1.state = k.state := by
  unfold Cell.countCrossing; dsimp only; (repeat' split) <;> exact ⟨rfl, rfl⟩

theorem Cell.periodCrossing_order (d : Nat) (o : Order) (k : Cell) :
    (k.periodCrossing d o).1.order = k.order ∧ (k.periodCrossing d o).1.state = k.state := by
  unfold Cell.periodCrossing
  dsimp only
  split
  · exact ⟨rfl, rfl⟩
  · by_cases h : k.samplesDone + 1 < o.m.toNat
    · rw [Cell.completeSample_more _ (by exact h)]; exact Cell.beginSample_order ..
    · rw [Cell.completeSample_last _ (by exact h)]; exact ⟨rfl, rfl⟩

theorem Cell.dischargeCrossing_order (o : Order) (k : Cell) (h : k.state = .discharging) :
    (k.dischargeCrossing o).1.order = k.order ∧
      (k.dischargeCrossing o).1.state.converting = true := by
  unfold Cell.dischargeCrossing
  by_cases hm : k.samplesDone + 1 < o.m.toNat
  · rw [Cell.completeSample_more _ hm]; exact ⟨rfl, rfl⟩
  · rw [Cell.completeSample_last _ hm]; exact ⟨rfl, by simp [h, CellState.converting]⟩

/-- A lower crossing leaves the order and the stage, whether or not it ends the order. -/
theorem Cell.lowerCrossing_sameStage (d : Nat) (k : Cell) :
    (k.lowerCrossing d).1.SameStage k := by
  unfold Cell.lowerCrossing
  split
  · dsimp only
    split
    · rename_i o hs ho
      have h := Cell.settleCrossing_order d o { k with level := .low }
      refine ⟨h.1, .inr ⟨by rw [hs]; rfl, ?_⟩⟩
      rcases h.2 with h | h <;> rw [h]
      · exact congrArg CellState.converting hs
      · rfl
    · rename_i o hs ho
      split
      · have h := Cell.countCrossing_order d o { k with level := .low }
        exact ⟨h.1, .inl h.2⟩
      · have h := Cell.periodCrossing_order d o { k with level := .low }
        exact ⟨h.1, .inl h.2⟩
      · have h := Cell.periodCrossing_order d o { k with level := .low }
        exact ⟨h.1, .inl h.2⟩
    · rename_i o hs ho
      have h := Cell.dischargeCrossing_order o { k with level := .low } hs
      exact ⟨h.1, .inr ⟨by rw [hs]; rfl, h.2⟩⟩
    · exact ⟨rfl, .inl rfl⟩
  · exact ⟨rfl, .inl rfl⟩

theorem Cell.expireGate_sameStage (k : Cell) : k.expireGate.1.SameStage k := by
  unfold Cell.expireGate
  split
  · dsimp only
    split
    · exact ⟨rfl, .inl rfl⟩
    · exact ⟨by rw [(Cell.completeSample_order ..).1], .inl (by rw [(Cell.completeSample_order ..).2])⟩
  · exact ⟨rfl, .inl rfl⟩

theorem Cell.releaseCapacitor_sameStage {k : Cell} (h : k.prechargeDue = true) :
    k.releaseCapacitor.1.SameStage k := by
  simp only [Cell.prechargeDue, Bool.and_eq_true, decide_eq_true_eq] at h
  unfold Cell.releaseCapacitor
  split
  · exact ⟨rfl, .inl rfl⟩
  · exact ⟨rfl, .inr ⟨by rw [h.1.1]; rfl, rfl⟩⟩

/-! ### The end of an order and of a job -/

theorem State.cell_eq_of_cells {s t : State} (h : t.cells = s.cells) (d : CellId) :
    t.cell d = s.cell d := by simp [State.cell, h]

theorem State.job_eq_of_dispatch {s t : State} (h : t.dispatch = s.dispatch) (d : CellId) :
    t.job d = s.job d := by simp [State.job, h]

theorem State.deliver_cells (ch : Fin 10) (o : Outcome) :
    (s.deliver c ch o).cells = s.cells.set c (s.cell c).rest := by
  unfold State.deliver State.referencePassed State.referenceFailed State.mainCompleted
    State.reportReference
  dsimp only
  (repeat' split) <;> simp

/-- A cell that moved by an event of its own: it rests when it delivered, and else stands as it
moved. -/
theorem State.settleCell_cells (r : Cell × Option Outcome) :
    (s.settleCell c r).cells = s.cells.set c r.1 ∨
    ((s.settleCell c r).cells = s.cells.set c r.1.rest ∧ r.2.isSome ∧ r.1.order.isSome) := by
  unfold State.settleCell
  dsimp only
  split
  · right
    rename_i h1 h2
    refine ⟨?_, by simp [h1], by simp [h2]⟩
    rw [State.deliver_cells]
    cases c <;> simp [State.cell, State.setCell]
  · left; simp

/-- With an outcome and an order, the outcome is delivered from the cell as it moved. -/
theorem State.settleCell_some (k : Cell) (o : Outcome) {order : Order} (h : k.order = some order) :
    s.settleCell c (k, some o) = (s.setCell c k).deliver c order.channel o := by
  simp [State.settleCell, h]

@[simp] theorem State.settleCell_none (k : Cell) : s.settleCell c (k, none) = s.setCell c k := rfl

theorem State.finishJob_job (j : Job) (r : Record) (d : CellId) :
    (s.finishJob c j r).job d = if d = c then none else s.job d := by
  unfold State.finishJob
  split <;> rw [State.job_setJob] <;> split <;> simp [State.job]

/-- The record that ends a job is appended, with the mark the window monitor gives a scan job's. -/
theorem State.finishJob_results (j : Job) (r : Record) :
    ∃ w, (s.finishJob c j r).results = (s.append { r with transition := w }).results ∧
      (j.origin.kind = .request → w = r.transition) := by
  unfold State.finishJob
  split
  · rename_i i n h
    refine ⟨(s.monitor i r).1.transition, ?_, by simp [h, Origin.kind]⟩
    have hr : (s.monitor i r).1 = { r with transition := (s.monitor i r).1.transition } ∨
        (s.monitor i r).1 = r := by
      unfold State.monitor; split <;> simp
    rcases hr with hr | hr
    · simp only [State.setJob_results, State.endScanJob_frame]
      rw [hr]; unfold State.append; dsimp only; (repeat' split) <;> simp
    · simp only [State.setJob_results, State.endScanJob_frame]
      rw [hr]; unfold State.append; dsimp only; (repeat' split) <;> simp
  · refine ⟨r.transition, by simp, by simp⟩

@[simp] theorem State.append_results (r : Record) : (s.append r).results = { s.results with
    records := s.results.records ++ [{ r with sequence := s.results.nextSequence }]
    reserved := s.results.reserved - 1, nextSequence := s.results.nextSequence + 1 } := by
  unfold State.append; dsimp only; split <;> simp
end

end Sys2Proof.Machine
end

