-- ==== Sys2Proof/Laws/Commands.lean ====
section
/-!
SUPPORT. Frames of the commands and of the serial port's rows: the fields of the state each leaves as
they are.
-/
namespace Sys2Proof.Machine


@[simp] theorem cellEnable_frame (s : State) :
    (cellEnable s).state.dispatch = s.dispatch ∧ (cellEnable s).state.profiles = s.profiles ∧
    (cellEnable s).state.channels = s.channels ∧ (cellEnable s).state.scan = s.scan ∧
    (cellEnable s).state.requests = s.requests ∧ (cellEnable s).state.references = s.references ∧
    (cellEnable s).state.results = s.results ∧ (cellEnable s).state.windows = s.windows ∧
    (cellEnable s).state.timebase = s.timebase ∧ (cellEnable s).state.timer = s.timer ∧
    (cellEnable s).state.trig = s.trig ∧ (cellEnable s).state.events = s.events ∧
    (cellEnable s).state.port = s.port ∧ (cellEnable s).state.command = s.command ∧
    (cellEnable s).state.resetHeld = s.resetHeld ∧ (cellEnable s).state.freeIndex = s.freeIndex ∧
    (cellEnable s).state.pending = s.pending ∧
    (cellEnable s).state.wire = s.wire := by
  unfold cellEnable; (try dsimp only); (repeat' split) <;> simp [Reply.done, Reply.refuse]

@[simp] theorem cellDisable_frame (s : State) :
    (cellDisable s).state.profiles = s.profiles ∧ (cellDisable s).state.channels = s.channels ∧
    (cellDisable s).state.requests = s.requests ∧ (cellDisable s).state.timebase = s.timebase ∧
    (cellDisable s).state.trig = s.trig ∧ (cellDisable s).state.port = s.port ∧
    (cellDisable s).state.command = s.command ∧ (cellDisable s).state.resetHeld = s.resetHeld ∧
    (cellDisable s).state.freeIndex = s.freeIndex ∧ (cellDisable s).state.pending = s.pending ∧
    (cellDisable s).state.wire = s.wire ∧
    (cellDisable s).state.scan.staging = s.scan.staging ∧
    (cellDisable s).state.scan.image = s.scan.image ∧
    (cellDisable s).state.scan.cycle = s.scan.cycle ∧
    (cellDisable s).state.scan.overrun = s.scan.overrun ∧
    (cellDisable s).state.scan.source = s.scan.source ∧
    (cellDisable s).state.scan.edge = s.scan.edge ∧
    (cellDisable s).state.results.watermark = s.results.watermark ∧
    (cellDisable s).state.results.snapshot = s.results.snapshot ∧
    (cellDisable s).state.results.current = s.results.current ∧
    (cellDisable s).state.events.enable = s.events.enable := by
  unfold cellDisable; (try dsimp only); (repeat' split) <;> simp [Reply.done, Reply.refuse]

@[simp] theorem channelSet_frame (s : State) :
    (channelSet s).state.cells = s.cells ∧ (channelSet s).state.profiles = s.profiles ∧
    (channelSet s).state.scan = s.scan ∧ (channelSet s).state.requests = s.requests ∧
    (channelSet s).state.results = s.results ∧ (channelSet s).state.windows = s.windows ∧
    (channelSet s).state.timebase = s.timebase ∧ (channelSet s).state.timer = s.timer ∧
    (channelSet s).state.trig = s.trig ∧ (channelSet s).state.events = s.events ∧
    (channelSet s).state.port = s.port ∧ (channelSet s).state.command = s.command ∧
    (channelSet s).state.resetHeld = s.resetHeld ∧ (channelSet s).state.freeIndex = s.freeIndex ∧
    (channelSet s).state.pending = s.pending ∧
    (channelSet s).state.wire = s.wire ∧
    (channelSet s).state.channels.threshold = s.channels.threshold := by
  unfold channelSet; (try dsimp only); (repeat' split) <;> simp [Reply.done, Reply.refuse]

@[simp] theorem channelSet_keeps_job (s : State) (d : CellId) :
    (channelSet s).state.job d = s.job d := by
  unfold channelSet; (try dsimp only); (repeat' split) <;> simp [Reply.done, Reply.refuse]

@[simp] theorem channelClearFault_frame (s : State) :
    (channelClearFault s).state.cells = s.cells ∧
    (channelClearFault s).state.profiles = s.profiles ∧
    (channelClearFault s).state.scan = s.scan ∧
    (channelClearFault s).state.requests = s.requests ∧
    (channelClearFault s).state.references = s.references ∧
    (channelClearFault s).state.results = s.results ∧
    (channelClearFault s).state.windows = s.windows ∧
    (channelClearFault s).state.timebase = s.timebase ∧
    (channelClearFault s).state.timer = s.timer ∧ (channelClearFault s).state.trig = s.trig ∧
    (channelClearFault s).state.events = s.events ∧ (channelClearFault s).state.port = s.port ∧
    (channelClearFault s).state.command = s.command ∧
    (channelClearFault s).state.resetHeld = s.resetHeld ∧
    (channelClearFault s).state.freeIndex = s.freeIndex ∧
    (channelClearFault s).state.pending = s.pending ∧
    (channelClearFault s).state.wire = s.wire ∧
    (channelClearFault s).state.channels.threshold = s.channels.threshold := by
  unfold channelClearFault; (try dsimp only); (repeat' split) <;> simp [Reply.done, Reply.refuse]

@[simp] theorem channelClearFault_keeps_job (s : State) (d : CellId) :
    (channelClearFault s).state.job d = s.job d := by
  unfold channelClearFault; (try dsimp only); (repeat' split) <;> simp [Reply.done, Reply.refuse]

@[simp] theorem faultThreshold_frame (s : State) :
    (faultThreshold s).state.cells = s.cells ∧ (faultThreshold s).state.dispatch = s.dispatch ∧
    (faultThreshold s).state.profiles = s.profiles ∧ (faultThreshold s).state.scan = s.scan ∧
    (faultThreshold s).state.requests = s.requests ∧
    (faultThreshold s).state.references = s.references ∧
    (faultThreshold s).state.results = s.results ∧ (faultThreshold s).state.windows = s.windows ∧
    (faultThreshold s).state.timebase = s.timebase ∧ (faultThreshold s).state.timer = s.timer ∧
    (faultThreshold s).state.trig = s.trig ∧ (faultThreshold s).state.events = s.events ∧
    (faultThreshold s).state.port = s.port ∧ (faultThreshold s).state.command = s.command ∧
    (faultThreshold s).state.resetHeld = s.resetHeld ∧
    (faultThreshold s).state.freeIndex = s.freeIndex ∧
    (faultThreshold s).state.pending = s.pending ∧
    (faultThreshold s).state.wire = s.wire := by
  unfold faultThreshold; (try dsimp only); (repeat' split) <;> simp [Reply.done, Reply.refuse]

@[simp] theorem timebaseSet_frame (s : State) :
    (timebaseSet s).state.cells = s.cells ∧ (timebaseSet s).state.dispatch = s.dispatch ∧
    (timebaseSet s).state.profiles = s.profiles ∧ (timebaseSet s).state.channels = s.channels ∧
    (timebaseSet s).state.scan = s.scan ∧ (timebaseSet s).state.requests = s.requests ∧
    (timebaseSet s).state.results = s.results ∧ (timebaseSet s).state.windows = s.windows ∧
    (timebaseSet s).state.timer = s.timer ∧ (timebaseSet s).state.events = s.events ∧
    (timebaseSet s).state.port = s.port ∧ (timebaseSet s).state.command = s.command ∧
    (timebaseSet s).state.resetHeld = s.resetHeld ∧
    (timebaseSet s).state.freeIndex = s.freeIndex ∧ (timebaseSet s).state.pending = s.pending ∧
    (timebaseSet s).state.wire = s.wire ∧
    (timebaseSet s).state.timebase.counter = s.timebase.counter ∧
    (timebaseSet s).state.timebase.latch = s.timebase.latch := by
  unfold timebaseSet; (try dsimp only); (repeat' split) <;> simp [Reply.done, Reply.refuse]

@[simp] theorem scanConfig_frame (s : State) :
    (scanConfig s).state.cells = s.cells ∧ (scanConfig s).state.dispatch = s.dispatch ∧
    (scanConfig s).state.profiles = s.profiles ∧ (scanConfig s).state.channels = s.channels ∧
    (scanConfig s).state.requests = s.requests ∧ (scanConfig s).state.references = s.references ∧
    (scanConfig s).state.results = s.results ∧ (scanConfig s).state.windows = s.windows ∧
    (scanConfig s).state.timebase = s.timebase ∧ (scanConfig s).state.trig = s.trig ∧
    (scanConfig s).state.events = s.events ∧ (scanConfig s).state.port = s.port ∧
    (scanConfig s).state.command = s.command ∧ (scanConfig s).state.resetHeld = s.resetHeld ∧
    (scanConfig s).state.freeIndex = s.freeIndex ∧ (scanConfig s).state.pending = s.pending ∧
    (scanConfig s).state.wire = s.wire ∧
    (scanConfig s).state.scan.staging = s.scan.staging ∧
    (scanConfig s).state.scan.active = s.scan.active ∧
    (scanConfig s).state.scan.image = s.scan.image ∧
    (scanConfig s).state.scan.state = s.scan.state ∧
    (scanConfig s).state.scan.single = s.scan.single ∧
    (scanConfig s).state.scan.cycle = s.scan.cycle ∧
    (scanConfig s).state.scan.overrun = s.scan.overrun ∧
    (scanConfig s).state.scan.commitPending = s.scan.commitPending ∧
    (scanConfig s).state.scan.due = s.scan.due ∧
    (scanConfig s).state.scan.jobsInFlight = s.scan.jobsInFlight ∧
    (scanConfig s).state.timer.running = s.timer.running := by
  unfold scanConfig; (try dsimp only); (repeat' split) <;> simp [Reply.done, Reply.refuse]

@[simp] theorem scanStart_frame (s : State) :
    (scanStart s).state.cells = s.cells ∧ (scanStart s).state.dispatch = s.dispatch ∧
    (scanStart s).state.profiles = s.profiles ∧ (scanStart s).state.channels = s.channels ∧
    (scanStart s).state.requests = s.requests ∧ (scanStart s).state.references = s.references ∧
    (scanStart s).state.results = s.results ∧ (scanStart s).state.windows = s.windows ∧
    (scanStart s).state.timebase = s.timebase ∧ (scanStart s).state.trig = s.trig ∧
    (scanStart s).state.events = s.events ∧ (scanStart s).state.port = s.port ∧
    (scanStart s).state.command = s.command ∧ (scanStart s).state.resetHeld = s.resetHeld ∧
    (scanStart s).state.freeIndex = s.freeIndex ∧ (scanStart s).state.pending = s.pending ∧
    (scanStart s).state.wire = s.wire ∧
    (scanStart s).state.scan.staging = s.scan.staging ∧
    (scanStart s).state.scan.active = s.scan.active ∧
    (scanStart s).state.scan.image = s.scan.image ∧
    (scanStart s).state.scan.cycle = s.scan.cycle ∧
    (scanStart s).state.scan.commitPending = s.scan.commitPending ∧
    (scanStart s).state.scan.due = s.scan.due ∧
    (scanStart s).state.scan.jobsInFlight = s.scan.jobsInFlight ∧
    (scanStart s).state.scan.source = s.scan.source ∧
    (scanStart s).state.scan.edge = s.scan.edge ∧
    (scanStart s).state.timer.period = s.timer.period ∧
    (scanStart s).state.timer.pendingPeriod = s.timer.pendingPeriod := by
  unfold scanStart; (try dsimp only); (repeat' split) <;> simp [Reply.done, Reply.refuse]

@[simp] theorem scanOnce_frame (s : State) :
    (scanOnce s).state.cells = s.cells ∧ (scanOnce s).state.profiles = s.profiles ∧
    (scanOnce s).state.channels = s.channels ∧ (scanOnce s).state.requests = s.requests ∧
    (scanOnce s).state.references = s.references ∧ (scanOnce s).state.results = s.results ∧
    (scanOnce s).state.timebase = s.timebase ∧ (scanOnce s).state.trig = s.trig ∧
    (scanOnce s).state.port = s.port ∧ (scanOnce s).state.command = s.command ∧
    (scanOnce s).state.resetHeld = s.resetHeld ∧ (scanOnce s).state.freeIndex = s.freeIndex ∧
    (scanOnce s).state.pending = s.pending ∧
    (scanOnce s).state.wire = s.wire ∧ (scanOnce s).state.scan.staging = s.scan.staging ∧
    (scanOnce s).state.scan.image = s.scan.image ∧
    (scanOnce s).state.scan.overrun = s.scan.overrun ∧
    (scanOnce s).state.scan.jobsInFlight = s.scan.jobsInFlight ∧
    (scanOnce s).state.scan.source = s.scan.source ∧ (scanOnce s).state.scan.edge = s.scan.edge ∧
    (scanOnce s).state.events.enable = s.events.enable := by
  unfold scanOnce; (try dsimp only); (repeat' split) <;> simp [Reply.done, Reply.refuse]

@[simp] theorem scanStop_frame (s : State) :
    (scanStop s).state.cells = s.cells ∧ (scanStop s).state.dispatch = s.dispatch ∧
    (scanStop s).state.profiles = s.profiles ∧ (scanStop s).state.channels = s.channels ∧
    (scanStop s).state.requests = s.requests ∧ (scanStop s).state.references = s.references ∧
    (scanStop s).state.results = s.results ∧ (scanStop s).state.timebase = s.timebase ∧
    (scanStop s).state.trig = s.trig ∧ (scanStop s).state.port = s.port ∧
    (scanStop s).state.command = s.command ∧ (scanStop s).state.resetHeld = s.resetHeld ∧
    (scanStop s).state.freeIndex = s.freeIndex ∧ (scanStop s).state.pending = s.pending ∧
    (scanStop s).state.wire = s.wire ∧
    (scanStop s).state.scan.staging = s.scan.staging ∧
    (scanStop s).state.scan.image = s.scan.image ∧ (scanStop s).state.scan.cycle = s.scan.cycle ∧
    (scanStop s).state.scan.overrun = s.scan.overrun ∧
    (scanStop s).state.scan.jobsInFlight = s.scan.jobsInFlight ∧
    (scanStop s).state.scan.source = s.scan.source ∧ (scanStop s).state.scan.edge = s.scan.edge ∧
    (scanStop s).state.events.enable = s.events.enable := by
  unfold scanStop; (try dsimp only); (repeat' split) <;> simp [Reply.done, Reply.refuse]

@[simp] theorem entryWrite_frame (s : State) :
    (entryWrite s).state.cells = s.cells ∧ (entryWrite s).state.dispatch = s.dispatch ∧
    (entryWrite s).state.profiles = s.profiles ∧ (entryWrite s).state.channels = s.channels ∧
    (entryWrite s).state.requests = s.requests ∧ (entryWrite s).state.references = s.references ∧
    (entryWrite s).state.results = s.results ∧ (entryWrite s).state.windows = s.windows ∧
    (entryWrite s).state.timebase = s.timebase ∧ (entryWrite s).state.timer = s.timer ∧
    (entryWrite s).state.trig = s.trig ∧ (entryWrite s).state.events = s.events ∧
    (entryWrite s).state.port = s.port ∧ (entryWrite s).state.command = s.command ∧
    (entryWrite s).state.resetHeld = s.resetHeld ∧ (entryWrite s).state.freeIndex = s.freeIndex ∧
    (entryWrite s).state.pending = s.pending ∧
    (entryWrite s).state.wire = s.wire ∧ (entryWrite s).state.scan.active = s.scan.active ∧
    (entryWrite s).state.scan.image = s.scan.image ∧
    (entryWrite s).state.scan.state = s.scan.state ∧
    (entryWrite s).state.scan.single = s.scan.single ∧
    (entryWrite s).state.scan.cycle = s.scan.cycle ∧
    (entryWrite s).state.scan.overrun = s.scan.overrun ∧
    (entryWrite s).state.scan.commitPending = s.scan.commitPending ∧
    (entryWrite s).state.scan.due = s.scan.due ∧
    (entryWrite s).state.scan.jobsInFlight = s.scan.jobsInFlight ∧
    (entryWrite s).state.scan.source = s.scan.source ∧
    (entryWrite s).state.scan.edge = s.scan.edge := by
  unfold entryWrite; (try dsimp only); (repeat' split) <;> simp [Reply.done, Reply.refuse]

@[simp] theorem entryRead_frame (s : State) :
    (entryRead s).state.cells = s.cells ∧ (entryRead s).state.dispatch = s.dispatch ∧
    (entryRead s).state.profiles = s.profiles ∧ (entryRead s).state.channels = s.channels ∧
    (entryRead s).state.requests = s.requests ∧ (entryRead s).state.references = s.references ∧
    (entryRead s).state.results = s.results ∧ (entryRead s).state.windows = s.windows ∧
    (entryRead s).state.timebase = s.timebase ∧ (entryRead s).state.timer = s.timer ∧
    (entryRead s).state.trig = s.trig ∧ (entryRead s).state.events = s.events ∧
    (entryRead s).state.port = s.port ∧ (entryRead s).state.command = s.command ∧
    (entryRead s).state.resetHeld = s.resetHeld ∧ (entryRead s).state.freeIndex = s.freeIndex ∧
    (entryRead s).state.pending = s.pending ∧
    (entryRead s).state.wire = s.wire ∧ (entryRead s).state.scan.staging = s.scan.staging ∧
    (entryRead s).state.scan.active = s.scan.active ∧
    (entryRead s).state.scan.state = s.scan.state ∧
    (entryRead s).state.scan.single = s.scan.single ∧
    (entryRead s).state.scan.cycle = s.scan.cycle ∧
    (entryRead s).state.scan.overrun = s.scan.overrun ∧
    (entryRead s).state.scan.commitPending = s.scan.commitPending ∧
    (entryRead s).state.scan.due = s.scan.due ∧
    (entryRead s).state.scan.jobsInFlight = s.scan.jobsInFlight ∧
    (entryRead s).state.scan.source = s.scan.source ∧ (entryRead s).state.scan.edge = s.scan.edge := by
  unfold entryRead; (try dsimp only); (repeat' split) <;> simp [Reply.done, Reply.refuse]

@[simp] theorem tableRevert_frame (s : State) :
    (tableRevert s).state.cells = s.cells ∧ (tableRevert s).state.dispatch = s.dispatch ∧
    (tableRevert s).state.profiles = s.profiles ∧ (tableRevert s).state.channels = s.channels ∧
    (tableRevert s).state.requests = s.requests ∧
    (tableRevert s).state.references = s.references ∧ (tableRevert s).state.results = s.results ∧
    (tableRevert s).state.windows = s.windows ∧ (tableRevert s).state.timebase = s.timebase ∧
    (tableRevert s).state.timer = s.timer ∧ (tableRevert s).state.trig = s.trig ∧
    (tableRevert s).state.events = s.events ∧ (tableRevert s).state.port = s.port ∧
    (tableRevert s).state.command = s.command ∧ (tableRevert s).state.resetHeld = s.resetHeld ∧
    (tableRevert s).state.freeIndex = s.freeIndex ∧ (tableRevert s).state.pending = s.pending ∧
    (tableRevert s).state.wire = s.wire ∧
    (tableRevert s).state.scan.active = s.scan.active ∧
    (tableRevert s).state.scan.image = s.scan.image ∧
    (tableRevert s).state.scan.state = s.scan.state ∧
    (tableRevert s).state.scan.single = s.scan.single ∧
    (tableRevert s).state.scan.cycle = s.scan.cycle ∧
    (tableRevert s).state.scan.overrun = s.scan.overrun ∧
    (tableRevert s).state.scan.commitPending = s.scan.commitPending ∧
    (tableRevert s).state.scan.due = s.scan.due ∧
    (tableRevert s).state.scan.jobsInFlight = s.scan.jobsInFlight ∧
    (tableRevert s).state.scan.source = s.scan.source ∧
    (tableRevert s).state.scan.edge = s.scan.edge := by
  unfold tableRevert; (try dsimp only); (repeat' split) <;> simp [Reply.done, Reply.refuse]

@[simp] theorem tableCommit_frame (s : State) :
    (tableCommit s).state.cells = s.cells ∧ (tableCommit s).state.dispatch = s.dispatch ∧
    (tableCommit s).state.profiles = s.profiles ∧ (tableCommit s).state.channels = s.channels ∧
    (tableCommit s).state.requests = s.requests ∧
    (tableCommit s).state.references = s.references ∧ (tableCommit s).state.results = s.results ∧
    (tableCommit s).state.timebase = s.timebase ∧ (tableCommit s).state.timer = s.timer ∧
    (tableCommit s).state.trig = s.trig ∧ (tableCommit s).state.port = s.port ∧
    (tableCommit s).state.command = s.command ∧ (tableCommit s).state.resetHeld = s.resetHeld ∧
    (tableCommit s).state.freeIndex = s.freeIndex ∧ (tableCommit s).state.pending = s.pending ∧
    (tableCommit s).state.wire = s.wire ∧
    (tableCommit s).state.scan.staging = s.scan.staging ∧
    (tableCommit s).state.scan.image = s.scan.image ∧
    (tableCommit s).state.scan.state = s.scan.state ∧
    (tableCommit s).state.scan.single = s.scan.single ∧
    (tableCommit s).state.scan.cycle = s.scan.cycle ∧
    (tableCommit s).state.scan.overrun = s.scan.overrun ∧
    (tableCommit s).state.scan.due = s.scan.due ∧
    (tableCommit s).state.scan.jobsInFlight = s.scan.jobsInFlight ∧
    (tableCommit s).state.scan.source = s.scan.source ∧
    (tableCommit s).state.scan.edge = s.scan.edge ∧
    (tableCommit s).state.events.enable = s.events.enable := by
  unfold tableCommit; (try dsimp only); (repeat' split) <;> simp [Reply.done, Reply.refuse]

@[simp] theorem tableAbandon_frame (s : State) :
    (tableAbandon s).state.cells = s.cells ∧ (tableAbandon s).state.dispatch = s.dispatch ∧
    (tableAbandon s).state.profiles = s.profiles ∧ (tableAbandon s).state.channels = s.channels ∧
    (tableAbandon s).state.requests = s.requests ∧
    (tableAbandon s).state.references = s.references ∧
    (tableAbandon s).state.results = s.results ∧ (tableAbandon s).state.windows = s.windows ∧
    (tableAbandon s).state.timebase = s.timebase ∧ (tableAbandon s).state.timer = s.timer ∧
    (tableAbandon s).state.trig = s.trig ∧ (tableAbandon s).state.events = s.events ∧
    (tableAbandon s).state.port = s.port ∧ (tableAbandon s).state.command = s.command ∧
    (tableAbandon s).state.resetHeld = s.resetHeld ∧
    (tableAbandon s).state.freeIndex = s.freeIndex ∧ (tableAbandon s).state.pending = s.pending ∧
    (tableAbandon s).state.wire = s.wire ∧
    (tableAbandon s).state.scan.staging = s.scan.staging ∧
    (tableAbandon s).state.scan.active = s.scan.active ∧
    (tableAbandon s).state.scan.image = s.scan.image ∧
    (tableAbandon s).state.scan.state = s.scan.state ∧
    (tableAbandon s).state.scan.single = s.scan.single ∧
    (tableAbandon s).state.scan.cycle = s.scan.cycle ∧
    (tableAbandon s).state.scan.overrun = s.scan.overrun ∧
    (tableAbandon s).state.scan.due = s.scan.due ∧
    (tableAbandon s).state.scan.jobsInFlight = s.scan.jobsInFlight ∧
    (tableAbandon s).state.scan.source = s.scan.source ∧
    (tableAbandon s).state.scan.edge = s.scan.edge := by
  unfold tableAbandon; (try dsimp only); (repeat' split) <;> simp [Reply.done, Reply.refuse]

@[simp] theorem profileWrite_frame (s : State) :
    (profileWrite s).state.cells = s.cells ∧ (profileWrite s).state.channels = s.channels ∧
    (profileWrite s).state.scan = s.scan ∧ (profileWrite s).state.requests = s.requests ∧
    (profileWrite s).state.results = s.results ∧ (profileWrite s).state.windows = s.windows ∧
    (profileWrite s).state.timebase = s.timebase ∧ (profileWrite s).state.timer = s.timer ∧
    (profileWrite s).state.trig = s.trig ∧ (profileWrite s).state.events = s.events ∧
    (profileWrite s).state.port = s.port ∧ (profileWrite s).state.command = s.command ∧
    (profileWrite s).state.resetHeld = s.resetHeld ∧
    (profileWrite s).state.freeIndex = s.freeIndex ∧ (profileWrite s).state.pending = s.pending ∧
    (profileWrite s).state.wire = s.wire := by
  unfold profileWrite; (try dsimp only); (repeat' split) <;> simp [Reply.done, Reply.refuse]

@[simp] theorem profileRead_frame (s : State) :
    (profileRead s).state.cells = s.cells ∧ (profileRead s).state.dispatch = s.dispatch ∧
    (profileRead s).state.channels = s.channels ∧ (profileRead s).state.scan = s.scan ∧
    (profileRead s).state.requests = s.requests ∧
    (profileRead s).state.references = s.references ∧ (profileRead s).state.results = s.results ∧
    (profileRead s).state.windows = s.windows ∧ (profileRead s).state.timebase = s.timebase ∧
    (profileRead s).state.timer = s.timer ∧ (profileRead s).state.trig = s.trig ∧
    (profileRead s).state.events = s.events ∧ (profileRead s).state.port = s.port ∧
    (profileRead s).state.command = s.command ∧ (profileRead s).state.resetHeld = s.resetHeld ∧
    (profileRead s).state.freeIndex = s.freeIndex ∧ (profileRead s).state.pending = s.pending ∧
    (profileRead s).state.wire = s.wire ∧
    (profileRead s).state.profiles.records = s.profiles.records := by
  unfold profileRead; (try dsimp only); (repeat' split) <;> simp [Reply.done, Reply.refuse]

@[simp] theorem referenceInvalidate_frame (s : State) :
    (referenceInvalidate s).state.cells = s.cells ∧
    (referenceInvalidate s).state.dispatch = s.dispatch ∧
    (referenceInvalidate s).state.profiles = s.profiles ∧
    (referenceInvalidate s).state.channels = s.channels ∧
    (referenceInvalidate s).state.scan = s.scan ∧
    (referenceInvalidate s).state.requests = s.requests ∧
    (referenceInvalidate s).state.results = s.results ∧
    (referenceInvalidate s).state.windows = s.windows ∧
    (referenceInvalidate s).state.timebase = s.timebase ∧
    (referenceInvalidate s).state.timer = s.timer ∧ (referenceInvalidate s).state.trig = s.trig ∧
    (referenceInvalidate s).state.events = s.events ∧
    (referenceInvalidate s).state.port = s.port ∧
    (referenceInvalidate s).state.command = s.command ∧
    (referenceInvalidate s).state.resetHeld = s.resetHeld ∧
    (referenceInvalidate s).state.freeIndex = s.freeIndex ∧
    (referenceInvalidate s).state.pending = s.pending ∧
    (referenceInvalidate s).state.wire = s.wire := by
  unfold referenceInvalidate
  (try dsimp only); (repeat' split) <;> simp [Reply.done, Reply.refuse]

@[simp] theorem requestSubmit_frame (s : State) :
    (requestSubmit s).state.cells = s.cells ∧ (requestSubmit s).state.profiles = s.profiles ∧
    (requestSubmit s).state.channels = s.channels ∧ (requestSubmit s).state.scan = s.scan ∧
    (requestSubmit s).state.references = s.references ∧
    (requestSubmit s).state.results = s.results ∧ (requestSubmit s).state.windows = s.windows ∧
    (requestSubmit s).state.timebase = s.timebase ∧ (requestSubmit s).state.timer = s.timer ∧
    (requestSubmit s).state.trig = s.trig ∧ (requestSubmit s).state.events = s.events ∧
    (requestSubmit s).state.port = s.port ∧ (requestSubmit s).state.command = s.command ∧
    (requestSubmit s).state.resetHeld = s.resetHeld ∧
    (requestSubmit s).state.freeIndex = s.freeIndex ∧
    (requestSubmit s).state.pending = s.pending ∧
    (requestSubmit s).state.wire = s.wire ∧
    (requestSubmit s).state.requests.image = s.requests.image := by
  unfold requestSubmit; (try dsimp only); (repeat' split) <;> simp [Reply.done, Reply.refuse]

@[simp] theorem requestCancel_frame (s : State) :
    (requestCancel s).state.profiles = s.profiles ∧
    (requestCancel s).state.channels = s.channels ∧
    (requestCancel s).state.references = s.references ∧
    (requestCancel s).state.timebase = s.timebase ∧ (requestCancel s).state.trig = s.trig ∧
    (requestCancel s).state.port = s.port ∧ (requestCancel s).state.command = s.command ∧
    (requestCancel s).state.resetHeld = s.resetHeld ∧
    (requestCancel s).state.pending = s.pending ∧
    (requestCancel s).state.wire = s.wire ∧
    (requestCancel s).state.requests.image = s.requests.image ∧
    (requestCancel s).state.results.watermark = s.results.watermark ∧
    (requestCancel s).state.events.enable = s.events.enable := by
  unfold requestCancel; (try dsimp only); (repeat' split) <;> simp [Reply.done, Reply.refuse]

@[simp] theorem requestFlush_frame (s : State) :
    (requestFlush s).state.cells = s.cells ∧ (requestFlush s).state.dispatch = s.dispatch ∧
    (requestFlush s).state.profiles = s.profiles ∧ (requestFlush s).state.channels = s.channels ∧
    (requestFlush s).state.scan = s.scan ∧ (requestFlush s).state.references = s.references ∧
    (requestFlush s).state.results = s.results ∧ (requestFlush s).state.windows = s.windows ∧
    (requestFlush s).state.timebase = s.timebase ∧ (requestFlush s).state.timer = s.timer ∧
    (requestFlush s).state.trig = s.trig ∧ (requestFlush s).state.events = s.events ∧
    (requestFlush s).state.port = s.port ∧ (requestFlush s).state.command = s.command ∧
    (requestFlush s).state.resetHeld = s.resetHeld ∧
    (requestFlush s).state.freeIndex = s.freeIndex ∧ (requestFlush s).state.pending = s.pending ∧
    (requestFlush s).state.wire = s.wire ∧
    (requestFlush s).state.requests.image = s.requests.image := by
  unfold requestFlush; (try dsimp only); (repeat' split) <;> simp [Reply.done, Reply.refuse]

@[simp] theorem resultPop_frame (s : State) :
    (resultPop s).state.cells = s.cells ∧ (resultPop s).state.profiles = s.profiles ∧
    (resultPop s).state.channels = s.channels ∧ (resultPop s).state.scan = s.scan ∧
    (resultPop s).state.requests = s.requests ∧ (resultPop s).state.references = s.references ∧
    (resultPop s).state.windows = s.windows ∧ (resultPop s).state.timebase = s.timebase ∧
    (resultPop s).state.timer = s.timer ∧ (resultPop s).state.trig = s.trig ∧
    (resultPop s).state.events = s.events ∧ (resultPop s).state.port = s.port ∧
    (resultPop s).state.command = s.command ∧ (resultPop s).state.resetHeld = s.resetHeld ∧
    (resultPop s).state.freeIndex = s.freeIndex ∧ (resultPop s).state.pending = s.pending ∧
    (resultPop s).state.wire = s.wire ∧
    (resultPop s).state.results.reserved = s.results.reserved ∧
    (resultPop s).state.results.nextSequence = s.results.nextSequence ∧
    (resultPop s).state.results.watermark = s.results.watermark ∧
    (resultPop s).state.results.snapshot = s.results.snapshot := by
  unfold resultPop; (try dsimp only); (repeat' split) <;> simp [Reply.done, Reply.refuse]

@[simp] theorem resultFlush_frame (s : State) :
    (resultFlush s).state.cells = s.cells ∧ (resultFlush s).state.profiles = s.profiles ∧
    (resultFlush s).state.channels = s.channels ∧ (resultFlush s).state.scan = s.scan ∧
    (resultFlush s).state.requests = s.requests ∧
    (resultFlush s).state.references = s.references ∧ (resultFlush s).state.windows = s.windows ∧
    (resultFlush s).state.timebase = s.timebase ∧ (resultFlush s).state.timer = s.timer ∧
    (resultFlush s).state.trig = s.trig ∧ (resultFlush s).state.events = s.events ∧
    (resultFlush s).state.port = s.port ∧ (resultFlush s).state.command = s.command ∧
    (resultFlush s).state.resetHeld = s.resetHeld ∧
    (resultFlush s).state.freeIndex = s.freeIndex ∧ (resultFlush s).state.pending = s.pending ∧
    (resultFlush s).state.wire = s.wire ∧
    (resultFlush s).state.results.reserved = s.results.reserved ∧
    (resultFlush s).state.results.nextSequence = s.results.nextSequence ∧
    (resultFlush s).state.results.watermark = s.results.watermark ∧
    (resultFlush s).state.results.snapshot = s.results.snapshot := by
  unfold resultFlush; (try dsimp only); (repeat' split) <;> simp [Reply.done, Reply.refuse]

@[simp] theorem resultWatermark_frame (s : State) :
    (resultWatermark s).state.cells = s.cells ∧ (resultWatermark s).state.dispatch = s.dispatch ∧
    (resultWatermark s).state.profiles = s.profiles ∧
    (resultWatermark s).state.channels = s.channels ∧ (resultWatermark s).state.scan = s.scan ∧
    (resultWatermark s).state.requests = s.requests ∧
    (resultWatermark s).state.references = s.references ∧
    (resultWatermark s).state.windows = s.windows ∧
    (resultWatermark s).state.timebase = s.timebase ∧ (resultWatermark s).state.timer = s.timer ∧
    (resultWatermark s).state.trig = s.trig ∧ (resultWatermark s).state.events = s.events ∧
    (resultWatermark s).state.port = s.port ∧ (resultWatermark s).state.command = s.command ∧
    (resultWatermark s).state.resetHeld = s.resetHeld ∧
    (resultWatermark s).state.freeIndex = s.freeIndex ∧
    (resultWatermark s).state.pending = s.pending ∧
    (resultWatermark s).state.wire = s.wire ∧
    (resultWatermark s).state.results.records = s.results.records ∧
    (resultWatermark s).state.results.reserved = s.results.reserved ∧
    (resultWatermark s).state.results.nextSequence = s.results.nextSequence ∧
    (resultWatermark s).state.results.snapshot = s.results.snapshot ∧
    (resultWatermark s).state.results.current = s.results.current := by
  unfold resultWatermark; (try dsimp only); (repeat' split) <;> simp [Reply.done, Reply.refuse]

@[simp] theorem windowAck_frame (s : State) :
    (windowAck s).state.cells = s.cells ∧ (windowAck s).state.dispatch = s.dispatch ∧
    (windowAck s).state.profiles = s.profiles ∧ (windowAck s).state.channels = s.channels ∧
    (windowAck s).state.scan = s.scan ∧ (windowAck s).state.requests = s.requests ∧
    (windowAck s).state.references = s.references ∧ (windowAck s).state.results = s.results ∧
    (windowAck s).state.timebase = s.timebase ∧ (windowAck s).state.timer = s.timer ∧
    (windowAck s).state.trig = s.trig ∧ (windowAck s).state.events = s.events ∧
    (windowAck s).state.port = s.port ∧ (windowAck s).state.command = s.command ∧
    (windowAck s).state.resetHeld = s.resetHeld ∧ (windowAck s).state.freeIndex = s.freeIndex ∧
    (windowAck s).state.pending = s.pending ∧
    (windowAck s).state.wire = s.wire ∧
    (windowAck s).state.windows.records = s.windows.records := by
  unfold windowAck; (try dsimp only); (repeat' split) <;> simp [Reply.done, Reply.refuse]

@[simp] theorem eventAck_frame (s : State) :
    (eventAck s).state.cells = s.cells ∧ (eventAck s).state.dispatch = s.dispatch ∧
    (eventAck s).state.profiles = s.profiles ∧ (eventAck s).state.channels = s.channels ∧
    (eventAck s).state.requests = s.requests ∧ (eventAck s).state.references = s.references ∧
    (eventAck s).state.results = s.results ∧ (eventAck s).state.windows = s.windows ∧
    (eventAck s).state.timebase = s.timebase ∧ (eventAck s).state.timer = s.timer ∧
    (eventAck s).state.trig = s.trig ∧ (eventAck s).state.port = s.port ∧
    (eventAck s).state.command = s.command ∧ (eventAck s).state.resetHeld = s.resetHeld ∧
    (eventAck s).state.freeIndex = s.freeIndex ∧ (eventAck s).state.pending = s.pending ∧
    (eventAck s).state.wire = s.wire ∧
    (eventAck s).state.scan.staging = s.scan.staging ∧
    (eventAck s).state.scan.active = s.scan.active ∧
    (eventAck s).state.scan.image = s.scan.image ∧ (eventAck s).state.scan.state = s.scan.state ∧
    (eventAck s).state.scan.single = s.scan.single ∧
    (eventAck s).state.scan.cycle = s.scan.cycle ∧
    (eventAck s).state.scan.commitPending = s.scan.commitPending ∧
    (eventAck s).state.scan.due = s.scan.due ∧
    (eventAck s).state.scan.jobsInFlight = s.scan.jobsInFlight ∧
    (eventAck s).state.scan.source = s.scan.source ∧ (eventAck s).state.scan.edge = s.scan.edge ∧
    (eventAck s).state.events.enable = s.events.enable := by
  unfold eventAck; (try dsimp only); (repeat' split) <;> simp [Reply.done, Reply.refuse]

@[simp] theorem State.windowWrite_frame (s : State) (n : Nat) (b : Byte) :
    (s.windowWrite n b).cells = s.cells ∧ (s.windowWrite n b).dispatch = s.dispatch ∧
    (s.windowWrite n b).channels = s.channels ∧ (s.windowWrite n b).references = s.references ∧
    (s.windowWrite n b).results = s.results ∧ (s.windowWrite n b).windows = s.windows ∧
    (s.windowWrite n b).timebase = s.timebase ∧ (s.windowWrite n b).timer = s.timer ∧
    (s.windowWrite n b).trig = s.trig ∧ (s.windowWrite n b).events = s.events ∧
    (s.windowWrite n b).port = s.port ∧ (s.windowWrite n b).resetHeld = s.resetHeld ∧
    (s.windowWrite n b).freeIndex = s.freeIndex ∧ (s.windowWrite n b).pending = s.pending ∧
    (s.windowWrite n b).wire = s.wire ∧
    (s.windowWrite n b).profiles.records = s.profiles.records ∧
    (s.windowWrite n b).scan.staging = s.scan.staging ∧
    (s.windowWrite n b).scan.active = s.scan.active ∧
    (s.windowWrite n b).scan.state = s.scan.state ∧
    (s.windowWrite n b).scan.single = s.scan.single ∧
    (s.windowWrite n b).scan.cycle = s.scan.cycle ∧
    (s.windowWrite n b).scan.overrun = s.scan.overrun ∧
    (s.windowWrite n b).scan.commitPending = s.scan.commitPending ∧
    (s.windowWrite n b).scan.due = s.scan.due ∧
    (s.windowWrite n b).scan.jobsInFlight = s.scan.jobsInFlight ∧
    (s.windowWrite n b).scan.source = s.scan.source ∧
    (s.windowWrite n b).scan.edge = s.scan.edge ∧
    (s.windowWrite n b).requests.queue = s.requests.queue := by
  unfold State.windowWrite; (try dsimp only); (repeat' split) <;> simp

@[simp] theorem State.writeEnable_frame (s : State) (b : Byte) :
    (s.writeEnable b).cells = s.cells ∧ (s.writeEnable b).dispatch = s.dispatch ∧
    (s.writeEnable b).profiles = s.profiles ∧ (s.writeEnable b).channels = s.channels ∧
    (s.writeEnable b).scan = s.scan ∧ (s.writeEnable b).requests = s.requests ∧
    (s.writeEnable b).references = s.references ∧ (s.writeEnable b).results = s.results ∧
    (s.writeEnable b).windows = s.windows ∧ (s.writeEnable b).timebase = s.timebase ∧
    (s.writeEnable b).timer = s.timer ∧ (s.writeEnable b).trig = s.trig ∧
    (s.writeEnable b).command = s.command ∧ (s.writeEnable b).resetHeld = s.resetHeld ∧
    (s.writeEnable b).freeIndex = s.freeIndex ∧ (s.writeEnable b).pending = s.pending ∧
    (s.writeEnable b).wire = s.wire ∧
    (s.writeEnable b).events.flags = s.events.flags := by
  unfold State.writeEnable; (try dsimp only); (repeat' split) <;> simp

@[simp] theorem State.latchCounter_frame (s : State) :
    (s.latchCounter).cells = s.cells ∧ (s.latchCounter).dispatch = s.dispatch ∧
    (s.latchCounter).profiles = s.profiles ∧ (s.latchCounter).channels = s.channels ∧
    (s.latchCounter).scan = s.scan ∧ (s.latchCounter).requests = s.requests ∧
    (s.latchCounter).references = s.references ∧ (s.latchCounter).results = s.results ∧
    (s.latchCounter).windows = s.windows ∧ (s.latchCounter).timer = s.timer ∧
    (s.latchCounter).trig = s.trig ∧ (s.latchCounter).events = s.events ∧
    (s.latchCounter).command = s.command ∧ (s.latchCounter).resetHeld = s.resetHeld ∧
    (s.latchCounter).freeIndex = s.freeIndex ∧ (s.latchCounter).pending = s.pending ∧
    (s.latchCounter).wire = s.wire ∧
    (s.latchCounter).timebase.prescale = s.timebase.prescale ∧
    (s.latchCounter).timebase.divider = s.timebase.divider ∧
    (s.latchCounter).timebase.counter = s.timebase.counter ∧
    (s.latchCounter).timebase.prescalerPhase = s.timebase.prescalerPhase ∧
    (s.latchCounter).timebase.intervalPhase = s.timebase.intervalPhase := by
  unfold State.latchCounter; (try dsimp only); (repeat' split) <;> simp

@[simp] theorem State.copySnapshot_frame (s : State) :
    (s.copySnapshot).cells = s.cells ∧ (s.copySnapshot).dispatch = s.dispatch ∧
    (s.copySnapshot).profiles = s.profiles ∧ (s.copySnapshot).channels = s.channels ∧
    (s.copySnapshot).scan = s.scan ∧ (s.copySnapshot).requests = s.requests ∧
    (s.copySnapshot).references = s.references ∧ (s.copySnapshot).windows = s.windows ∧
    (s.copySnapshot).timebase = s.timebase ∧ (s.copySnapshot).timer = s.timer ∧
    (s.copySnapshot).trig = s.trig ∧ (s.copySnapshot).events = s.events ∧
    (s.copySnapshot).command = s.command ∧ (s.copySnapshot).resetHeld = s.resetHeld ∧
    (s.copySnapshot).freeIndex = s.freeIndex ∧ (s.copySnapshot).pending = s.pending ∧
    (s.copySnapshot).wire = s.wire ∧
    (s.copySnapshot).results.records = s.results.records ∧
    (s.copySnapshot).results.reserved = s.results.reserved ∧
    (s.copySnapshot).results.nextSequence = s.results.nextSequence ∧
    (s.copySnapshot).results.watermark = s.results.watermark := by
  unfold State.copySnapshot; (try dsimp only); (repeat' split) <;> simp

@[simp] theorem State.beginFrame_frame (s : State) :
    (s.beginFrame).cells = s.cells ∧ (s.beginFrame).dispatch = s.dispatch ∧
    (s.beginFrame).profiles = s.profiles ∧ (s.beginFrame).channels = s.channels ∧
    (s.beginFrame).scan = s.scan ∧ (s.beginFrame).requests = s.requests ∧
    (s.beginFrame).references = s.references ∧ (s.beginFrame).results = s.results ∧
    (s.beginFrame).windows = s.windows ∧ (s.beginFrame).timebase = s.timebase ∧
    (s.beginFrame).timer = s.timer ∧ (s.beginFrame).trig = s.trig ∧
    (s.beginFrame).events = s.events ∧ (s.beginFrame).command = s.command ∧
    (s.beginFrame).resetHeld = s.resetHeld ∧ (s.beginFrame).freeIndex = s.freeIndex ∧
    (s.beginFrame).pending = s.pending ∧
    (s.beginFrame).wire = s.wire := by
  unfold State.beginFrame; (try dsimp only); (repeat' split) <;> simp

@[simp] theorem State.loadByte_frame (s : State) :
    (s.loadByte).cells = s.cells ∧
    (s.loadByte).dispatch = s.dispatch ∧
    (s.loadByte).profiles = s.profiles ∧
    (s.loadByte).channels = s.channels ∧
    (s.loadByte).scan = s.scan ∧
    (s.loadByte).requests = s.requests ∧
    (s.loadByte).references = s.references ∧
    (s.loadByte).windows = s.windows ∧
    (s.loadByte).timer = s.timer ∧
    (s.loadByte).trig = s.trig ∧
    (s.loadByte).events = s.events ∧
    (s.loadByte).command = s.command ∧
    (s.loadByte).resetHeld = s.resetHeld ∧
    (s.loadByte).freeIndex = s.freeIndex ∧
    (s.loadByte).pending = s.pending ∧
    (s.loadByte).wire = s.wire ∧
    (s.loadByte).timebase.prescale = s.timebase.prescale ∧
    (s.loadByte).timebase.divider = s.timebase.divider ∧
    (s.loadByte).timebase.counter = s.timebase.counter ∧
    (s.loadByte).timebase.prescalerPhase = s.timebase.prescalerPhase ∧
    (s.loadByte).timebase.intervalPhase = s.timebase.intervalPhase ∧
    (s.loadByte).results.records = s.results.records ∧
    (s.loadByte).results.reserved = s.results.reserved ∧
    (s.loadByte).results.nextSequence = s.results.nextSequence ∧
    (s.loadByte).results.watermark = s.results.watermark := by
  unfold State.loadByte; (repeat' split) <;> simp

@[simp] theorem State.sckFall_frame (s : State) :
    (s.sckFall).cells = s.cells ∧
    (s.sckFall).dispatch = s.dispatch ∧
    (s.sckFall).profiles = s.profiles ∧
    (s.sckFall).channels = s.channels ∧
    (s.sckFall).scan = s.scan ∧
    (s.sckFall).requests = s.requests ∧
    (s.sckFall).references = s.references ∧
    (s.sckFall).windows = s.windows ∧
    (s.sckFall).timer = s.timer ∧
    (s.sckFall).trig = s.trig ∧
    (s.sckFall).events = s.events ∧
    (s.sckFall).command = s.command ∧
    (s.sckFall).resetHeld = s.resetHeld ∧
    (s.sckFall).freeIndex = s.freeIndex ∧
    (s.sckFall).pending = s.pending ∧
    (s.sckFall).wire = s.wire ∧
    (s.sckFall).timebase.prescale = s.timebase.prescale ∧
    (s.sckFall).timebase.divider = s.timebase.divider ∧
    (s.sckFall).timebase.counter = s.timebase.counter ∧
    (s.sckFall).timebase.prescalerPhase = s.timebase.prescalerPhase ∧
    (s.sckFall).timebase.intervalPhase = s.timebase.intervalPhase ∧
    (s.sckFall).results.records = s.results.records ∧
    (s.sckFall).results.reserved = s.results.reserved ∧
    (s.sckFall).results.nextSequence = s.results.nextSequence ∧
    (s.sckFall).results.watermark = s.results.watermark := by
  unfold State.sckFall; (repeat' split) <;> simp

@[simp] theorem State.endFrame_frame (s : State) :
    (s.endFrame).cells = s.cells ∧
    (s.endFrame).dispatch = s.dispatch ∧
    (s.endFrame).profiles = s.profiles ∧
    (s.endFrame).channels = s.channels ∧
    (s.endFrame).scan = s.scan ∧
    (s.endFrame).requests = s.requests ∧
    (s.endFrame).references = s.references ∧
    (s.endFrame).windows = s.windows ∧
    (s.endFrame).timer = s.timer ∧
    (s.endFrame).trig = s.trig ∧
    (s.endFrame).events = s.events ∧
    (s.endFrame).command = s.command ∧
    (s.endFrame).resetHeld = s.resetHeld ∧
    (s.endFrame).freeIndex = s.freeIndex ∧
    (s.endFrame).pending = s.pending ∧
    (s.endFrame).wire = s.wire ∧
    (s.endFrame).timebase.prescale = s.timebase.prescale ∧
    (s.endFrame).timebase.divider = s.timebase.divider ∧
    (s.endFrame).timebase.counter = s.timebase.counter ∧
    (s.endFrame).timebase.prescalerPhase = s.timebase.prescalerPhase ∧
    (s.endFrame).timebase.intervalPhase = s.timebase.intervalPhase ∧
    (s.endFrame).results.records = s.results.records ∧
    (s.endFrame).results.reserved = s.results.reserved ∧
    (s.endFrame).results.nextSequence = s.results.nextSequence ∧
    (s.endFrame).results.watermark = s.results.watermark := by
  unfold State.endFrame; dsimp only; split <;> simp

@[simp] theorem State.takeHeader_frame (s : State) (b : Byte) :
    (s.takeHeader b).cells = s.cells ∧ (s.takeHeader b).dispatch = s.dispatch ∧
    (s.takeHeader b).profiles = s.profiles ∧ (s.takeHeader b).channels = s.channels ∧
    (s.takeHeader b).scan = s.scan ∧ (s.takeHeader b).requests = s.requests ∧
    (s.takeHeader b).references = s.references ∧ (s.takeHeader b).results = s.results ∧
    (s.takeHeader b).windows = s.windows ∧ (s.takeHeader b).timebase = s.timebase ∧
    (s.takeHeader b).timer = s.timer ∧ (s.takeHeader b).trig = s.trig ∧
    (s.takeHeader b).events = s.events ∧ (s.takeHeader b).command = s.command ∧
    (s.takeHeader b).resetHeld = s.resetHeld ∧ (s.takeHeader b).freeIndex = s.freeIndex ∧
    (s.takeHeader b).pending = s.pending ∧
    (s.takeHeader b).wire = s.wire := by
  unfold State.takeHeader; (try dsimp only); (repeat' split) <;> simp

end Sys2Proof.Machine
end

