-- ==== Sys2Proof/Laws/Reads.lean ====
section
/-!
SUPPORT. Frames as they are read: for each shared operation and each command, the cells, jobs,
opportunities, channels, profiles and reference records it leaves as they are.
-/
namespace Sys2Proof.Machine


@[simp] theorem State.offer_reads (s : State) (c : CellId) :
    (∀ d, (s.offer c).cell d = s.cell d) ∧ (∀ x, (s.offer c).channel x = s.channel x) ∧
    (∀ q, (s.offer c).profile q = s.profile q) ∧
    (∀ d q, (s.offer c).reference d q = s.reference d q) := by
  simp [State.cell, State.channel, State.profile, State.reference]

@[simp] theorem State.offerBoth_reads (s : State) :
    (∀ d, (s.offerBoth).cell d = s.cell d) ∧ (∀ x, (s.offerBoth).channel x = s.channel x) ∧
    (∀ q, (s.offerBoth).profile q = s.profile q) ∧
    (∀ d q, (s.offerBoth).reference d q = s.reference d q) := by
  simp [State.cell, State.channel, State.profile, State.reference]

@[simp] theorem State.invalidate_reads (s : State) (c : CellId) (p : Fin 4) :
    (∀ d, (s.invalidate c p).cell d = s.cell d) ∧ (∀ d, (s.invalidate c p).job d = s.job d) ∧
    (∀ d, (s.invalidate c p).opportunity d = s.opportunity d) ∧
    (∀ x, (s.invalidate c p).channel x = s.channel x) ∧
    (∀ q, (s.invalidate c p).profile q = s.profile q) := by
  simp [State.cell, State.job, State.opportunity, State.channel, State.profile]

@[simp] theorem State.invalidateProfile_reads (s : State) (p : Fin 4) :
    (∀ d, (s.invalidateProfile p).cell d = s.cell d) ∧
    (∀ d, (s.invalidateProfile p).job d = s.job d) ∧
    (∀ d, (s.invalidateProfile p).opportunity d = s.opportunity d) ∧
    (∀ x, (s.invalidateProfile p).channel x = s.channel x) ∧
    (∀ q, (s.invalidateProfile p).profile q = s.profile q) := by
  simp [State.cell, State.job, State.opportunity, State.channel, State.profile]

@[simp] theorem State.offerReference_reads
    (s : State) (c : CellId) (j : Job) (o : Outcome) (n : Nat) :
    (∀ d, (s.offerReference c j o n).cell d = s.cell d) ∧
    (∀ d, (s.offerReference c j o n).job d = s.job d) ∧
    (∀ d, (s.offerReference c j o n).opportunity d = s.opportunity d) ∧
    (∀ x, (s.offerReference c j o n).channel x = s.channel x) ∧
    (∀ q, (s.offerReference c j o n).profile q = s.profile q) := by
  simp [State.cell, State.job, State.opportunity, State.channel, State.profile]

@[simp] theorem State.updateHealth_reads (s : State) (ch : Fin 10) (f : Bool) (o : Outcome) :
    (∀ d, (s.updateHealth ch f o).cell d = s.cell d) ∧
    (∀ q, (s.updateHealth ch f o).profile q = s.profile q) := by
  simp [State.cell, State.profile]

@[simp] theorem State.append_reads (s : State) (r : Record) :
    (∀ d, (s.append r).cell d = s.cell d) ∧ (∀ d, (s.append r).job d = s.job d) ∧
    (∀ d, (s.append r).opportunity d = s.opportunity d) ∧
    (∀ x, (s.append r).channel x = s.channel x) ∧ (∀ q, (s.append r).profile q = s.profile q) ∧
    (∀ d q, (s.append r).reference d q = s.reference d q) := by
  simp [State.cell, State.job, State.opportunity, State.channel, State.profile, State.reference]

@[simp] theorem State.release_reads (s : State) :
    (∀ d, (s.release).cell d = s.cell d) ∧ (∀ x, (s.release).channel x = s.channel x) ∧
    (∀ q, (s.release).profile q = s.profile q) ∧
    (∀ d q, (s.release).reference d q = s.reference d q) := by
  simp [State.cell, State.channel, State.profile, State.reference]

@[simp] theorem State.release_reads_job (s : State) :
    ∀ d, (s.release).job d = s.job d := by
  intro d; unfold State.release; (try dsimp only); (repeat' split) <;> first | rfl | (simp; done) | (simp; rfl) | (simp [Reply.done, Reply.refuse]; done) | (simp [Reply.done]; rfl)

@[simp] theorem State.monitor_reads (s : State) (i : Fin 16) (r : Record) :
    (∀ d, (s.monitor i r).2.cell d = s.cell d) ∧ (∀ d, (s.monitor i r).2.job d = s.job d) ∧
    (∀ d, (s.monitor i r).2.opportunity d = s.opportunity d) ∧
    (∀ x, (s.monitor i r).2.channel x = s.channel x) ∧
    (∀ q, (s.monitor i r).2.profile q = s.profile q) ∧
    (∀ d q, (s.monitor i r).2.reference d q = s.reference d q) := by
  simp [State.cell, State.job, State.opportunity, State.channel, State.profile, State.reference]

@[simp] theorem State.applyCommit_reads (s : State) :
    (∀ d, (s.applyCommit).cell d = s.cell d) ∧ (∀ d, (s.applyCommit).job d = s.job d) ∧
    (∀ d, (s.applyCommit).opportunity d = s.opportunity d) ∧
    (∀ x, (s.applyCommit).channel x = s.channel x) ∧
    (∀ q, (s.applyCommit).profile q = s.profile q) ∧
    (∀ d q, (s.applyCommit).reference d q = s.reference d q) := by
  simp [State.cell, State.job, State.opportunity, State.channel, State.profile, State.reference]

@[simp] theorem State.applyPending_reads (s : State) :
    (∀ d, (s.applyPending).cell d = s.cell d) ∧ (∀ d, (s.applyPending).job d = s.job d) ∧
    (∀ d, (s.applyPending).opportunity d = s.opportunity d) ∧
    (∀ x, (s.applyPending).channel x = s.channel x) ∧
    (∀ q, (s.applyPending).profile q = s.profile q) ∧
    (∀ d q, (s.applyPending).reference d q = s.reference d q) := by
  simp [State.cell, State.job, State.opportunity, State.channel, State.profile, State.reference]

@[simp] theorem State.reachStopped_reads (s : State) :
    (∀ d, (s.reachStopped).cell d = s.cell d) ∧ (∀ d, (s.reachStopped).job d = s.job d) ∧
    (∀ d, (s.reachStopped).opportunity d = s.opportunity d) ∧
    (∀ x, (s.reachStopped).channel x = s.channel x) ∧
    (∀ q, (s.reachStopped).profile q = s.profile q) ∧
    (∀ d q, (s.reachStopped).reference d q = s.reference d q) := by
  simp [State.cell, State.job, State.opportunity, State.channel, State.profile, State.reference]

@[simp] theorem State.completionCheck_reads (s : State) :
    (∀ d, (s.completionCheck).cell d = s.cell d) ∧ (∀ d, (s.completionCheck).job d = s.job d) ∧
    (∀ d, (s.completionCheck).opportunity d = s.opportunity d) ∧
    (∀ x, (s.completionCheck).channel x = s.channel x) ∧
    (∀ q, (s.completionCheck).profile q = s.profile q) ∧
    (∀ d q, (s.completionCheck).reference d q = s.reference d q) := by
  simp [State.cell, State.job, State.opportunity, State.channel, State.profile, State.reference]

@[simp] theorem State.endScanJob_reads (s : State) :
    (∀ d, (s.endScanJob).cell d = s.cell d) ∧ (∀ d, (s.endScanJob).job d = s.job d) ∧
    (∀ d, (s.endScanJob).opportunity d = s.opportunity d) ∧
    (∀ x, (s.endScanJob).channel x = s.channel x) ∧
    (∀ q, (s.endScanJob).profile q = s.profile q) ∧
    (∀ d q, (s.endScanJob).reference d q = s.reference d q) := by
  simp [State.cell, State.job, State.opportunity, State.channel, State.profile, State.reference]

@[simp] theorem State.startCycle_reads (s : State) :
    (∀ d, (s.startCycle).cell d = s.cell d) ∧ (∀ x, (s.startCycle).channel x = s.channel x) ∧
    (∀ q, (s.startCycle).profile q = s.profile q) ∧
    (∀ d q, (s.startCycle).reference d q = s.reference d q) := by
  simp [State.cell, State.channel, State.profile, State.reference]

@[simp] theorem State.startCycle_reads_job (s : State) :
    ∀ d, (s.startCycle).job d = s.job d := by
  intro d; unfold State.startCycle; (try dsimp only); (repeat' split) <;> first | rfl | (simp; done) | (simp; rfl) | (simp [Reply.done, Reply.refuse]; done) | (simp [Reply.done]; rfl)

@[simp] theorem State.countOverrun_reads (s : State) :
    (∀ d, (s.countOverrun).cell d = s.cell d) ∧ (∀ d, (s.countOverrun).job d = s.job d) ∧
    (∀ d, (s.countOverrun).opportunity d = s.opportunity d) ∧
    (∀ x, (s.countOverrun).channel x = s.channel x) ∧
    (∀ q, (s.countOverrun).profile q = s.profile q) ∧
    (∀ d q, (s.countOverrun).reference d q = s.reference d q) := by
  simp [State.cell, State.job, State.opportunity, State.channel, State.profile, State.reference]

@[simp] theorem State.cycleStartEvent_reads (s : State) :
    (∀ d, (s.cycleStartEvent).cell d = s.cell d) ∧
    (∀ x, (s.cycleStartEvent).channel x = s.channel x) ∧
    (∀ q, (s.cycleStartEvent).profile q = s.profile q) ∧
    (∀ d q, (s.cycleStartEvent).reference d q = s.reference d q) := by
  simp [State.cell, State.channel, State.profile, State.reference]

@[simp] theorem State.cycleStartEvent_reads_job (s : State) :
    ∀ d, (s.cycleStartEvent).job d = s.job d := by
  intro d; unfold State.cycleStartEvent; (try dsimp only); (repeat' split) <;> first | rfl | (simp; done) | (simp; rfl) | (simp [Reply.done, Reply.refuse]; done) | (simp [Reply.done]; rfl)

@[simp] theorem State.removeDue_reads (s : State) (c : CellId) :
    (∀ d, (s.removeDue c).cell d = s.cell d) ∧ (∀ d, (s.removeDue c).job d = s.job d) ∧
    (∀ d, (s.removeDue c).opportunity d = s.opportunity d) ∧
    (∀ x, (s.removeDue c).channel x = s.channel x) ∧
    (∀ q, (s.removeDue c).profile q = s.profile q) ∧
    (∀ d q, (s.removeDue c).reference d q = s.reference d q) := by
  simp [State.cell, State.job, State.opportunity, State.channel, State.profile, State.reference]

@[simp] theorem State.giveOrder_reads (s : State) (c : CellId) (o : Order) :
    (∀ d, (s.giveOrder c o).job d = s.job d) ∧
    (∀ d, (s.giveOrder c o).opportunity d = s.opportunity d) ∧
    (∀ x, (s.giveOrder c o).channel x = s.channel x) ∧
    (∀ q, (s.giveOrder c o).profile q = s.profile q) ∧
    (∀ d q, (s.giveOrder c o).reference d q = s.reference d q) := by
  simp [State.job, State.opportunity, State.channel, State.profile, State.reference]

@[simp] theorem State.finishJob_reads (s : State) (c : CellId) (j : Job) (r : Record) :
    (∀ d, (s.finishJob c j r).cell d = s.cell d) ∧
    (∀ x, (s.finishJob c j r).channel x = s.channel x) ∧
    (∀ q, (s.finishJob c j r).profile q = s.profile q) ∧
    (∀ d q, (s.finishJob c j r).reference d q = s.reference d q) := by
  simp [State.cell, State.channel, State.profile, State.reference]

@[simp] theorem State.finishJob_reads_opportunity
    (s : State) (c : CellId) (j : Job) (r : Record) :
    ∀ d, (s.finishJob c j r).opportunity d = s.opportunity d := by
  intro d; unfold State.finishJob; (try dsimp only); (repeat' split) <;> first | rfl | (simp; done) | (simp; rfl) | (simp [Reply.done, Reply.refuse]; done) | (simp [Reply.done]; rfl)

@[simp] theorem State.reportReference_reads (s : State) (c : CellId) (j : Job) (o : Outcome) :
    (∀ d, (s.reportReference c j o).cell d = s.cell d) ∧
    (∀ d, (s.reportReference c j o).job d = s.job d) ∧
    (∀ d, (s.reportReference c j o).opportunity d = s.opportunity d) ∧
    (∀ x, (s.reportReference c j o).channel x = s.channel x) ∧
    (∀ q, (s.reportReference c j o).profile q = s.profile q) ∧
    (∀ d q, (s.reportReference c j o).reference d q = s.reference d q) := by
  simp [State.cell, State.job, State.opportunity, State.channel, State.profile, State.reference]

@[simp] theorem State.referencePassed_reads
    (s : State) (c : CellId) (j : Job) (o : Outcome) (n : Nat) :
    (∀ d, (s.referencePassed c j o n).cell d = s.cell d) ∧
    (∀ x, (s.referencePassed c j o n).channel x = s.channel x) ∧
    (∀ q, (s.referencePassed c j o n).profile q = s.profile q) := by
  simp [State.cell, State.channel, State.profile]

@[simp] theorem State.referencePassed_reads_opportunity
    (s : State) (c : CellId) (j : Job) (o : Outcome) (n : Nat) :
    ∀ d, (s.referencePassed c j o n).opportunity d = s.opportunity d := by
  intro d; unfold State.referencePassed; (try dsimp only); (repeat' split) <;> first | rfl | (simp; done) | (simp; rfl) | (simp [Reply.done, Reply.refuse]; done) | (simp [Reply.done]; rfl)

@[simp] theorem State.referenceFailed_reads (s : State) (c : CellId) (j : Job) (o : Outcome) :
    (∀ d, (s.referenceFailed c j o).cell d = s.cell d) ∧
    (∀ x, (s.referenceFailed c j o).channel x = s.channel x) ∧
    (∀ q, (s.referenceFailed c j o).profile q = s.profile q) := by
  simp [State.cell, State.channel, State.profile]

@[simp] theorem State.referenceFailed_reads_opportunity
    (s : State) (c : CellId) (j : Job) (o : Outcome) :
    ∀ d, (s.referenceFailed c j o).opportunity d = s.opportunity d := by
  intro d; unfold State.referenceFailed; (try dsimp only); (repeat' split) <;> first | rfl | (simp; done) | (simp; rfl) | (simp [Reply.done, Reply.refuse]; done) | (simp [Reply.done]; rfl)

@[simp] theorem State.mainCompleted_reads (s : State) (c : CellId) (j : Job) (o : Outcome) :
    (∀ d, (s.mainCompleted c j o).cell d = s.cell d) ∧
    (∀ x, (s.mainCompleted c j o).channel x = s.channel x) ∧
    (∀ q, (s.mainCompleted c j o).profile q = s.profile q) := by
  simp [State.cell, State.channel, State.profile]

@[simp] theorem State.mainCompleted_reads_opportunity
    (s : State) (c : CellId) (j : Job) (o : Outcome) :
    ∀ d, (s.mainCompleted c j o).opportunity d = s.opportunity d := by
  intro d; unfold State.mainCompleted; (try dsimp only); (repeat' split) <;> first | rfl | (simp; done) | (simp; rfl) | (simp [Reply.done, Reply.refuse]; done) | (simp [Reply.done]; rfl)

@[simp] theorem State.deliver_reads (s : State) (c : CellId) (ch : Fin 10) (o : Outcome) :
    ∀ q, (s.deliver c ch o).profile q = s.profile q := by
  simp [State.profile]

@[simp] theorem State.settleCell_reads (s : State) (c : CellId) (r : Cell × Option Outcome) :
    ∀ q, (s.settleCell c r).profile q = s.profile q := by
  simp [State.profile]

@[simp] theorem State.abortJob_reads (s : State) (c : CellId) (j : Job) (st : RecordStatus) :
    (∀ d, (s.abortJob c j st).cell d = s.cell d) ∧
    (∀ x, (s.abortJob c j st).channel x = s.channel x) ∧
    (∀ q, (s.abortJob c j st).profile q = s.profile q) ∧
    (∀ d q, (s.abortJob c j st).reference d q = s.reference d q) := by
  simp [State.cell, State.channel, State.profile, State.reference]

@[simp] theorem State.withdraw_reads (s : State) (c : CellId) (w : Work) :
    (∀ d, (s.withdraw c w).cell d = s.cell d) ∧ (∀ d, (s.withdraw c w).job d = s.job d) ∧
    (∀ d, (s.withdraw c w).opportunity d = s.opportunity d) ∧
    (∀ x, (s.withdraw c w).channel x = s.channel x) ∧
    (∀ q, (s.withdraw c w).profile q = s.profile q) ∧
    (∀ d q, (s.withdraw c w).reference d q = s.reference d q) := by
  simp [State.cell, State.job, State.opportunity, State.channel, State.profile, State.reference]

@[simp] theorem State.completeAtDispatch_reads
    (s : State) (c : CellId) (j : Job) (st : RecordStatus) :
    (∀ d, (s.completeAtDispatch c j st).cell d = s.cell d) ∧
    (∀ x, (s.completeAtDispatch c j st).channel x = s.channel x) ∧
    (∀ q, (s.completeAtDispatch c j st).profile q = s.profile q) ∧
    (∀ d q, (s.completeAtDispatch c j st).reference d q = s.reference d q) := by
  simp [State.cell, State.channel, State.profile, State.reference]

@[simp] theorem State.spendUse_reads (s : State) (c : CellId) (p : Fin 4) :
    (∀ d, (s.spendUse c p).cell d = s.cell d) ∧ (∀ d, (s.spendUse c p).job d = s.job d) ∧
    (∀ d, (s.spendUse c p).opportunity d = s.opportunity d) ∧
    (∀ x, (s.spendUse c p).channel x = s.channel x) ∧
    (∀ q, (s.spendUse c p).profile q = s.profile q) := by
  simp [State.cell, State.job, State.opportunity, State.channel, State.profile]

@[simp] theorem State.dispatchWork_reads (s : State) (c : CellId) (w : Work) (v : Judgement) :
    (∀ x, (s.dispatchWork c w v).channel x = s.channel x) ∧
    (∀ q, (s.dispatchWork c w v).profile q = s.profile q) := by
  simp [State.channel, State.profile]

@[simp] theorem State.attempt_reads (s : State) (c : CellId) :
    (∀ x, (s.attempt c).channel x = s.channel x) ∧ (∀ q, (s.attempt c).profile q = s.profile q) := by
  simp [State.channel, State.profile]

@[simp] theorem State.recheck_reads (s : State) (c : CellId) (j : Job) :
    (∀ x, (s.recheck c j).channel x = s.channel x) ∧
    (∀ q, (s.recheck c j).profile q = s.profile q) ∧
    (∀ d q, (s.recheck c j).reference d q = s.reference d q) := by
  simp [State.channel, State.profile, State.reference]

@[simp] theorem State.gateExpiry_reads (s : State) (c : CellId) :
    ∀ q, (s.gateExpiry c).profile q = s.profile q := by
  simp [State.profile]

@[simp] theorem State.prechargeExpiry_reads (s : State) (c : CellId) :
    ∀ q, (s.prechargeExpiry c).profile q = s.profile q := by
  simp [State.profile]

@[simp] theorem State.periodOverflow_reads (s : State) (c : CellId) :
    ∀ q, (s.periodOverflow c).profile q = s.profile q := by
  simp [State.profile]

@[simp] theorem State.stallExpiry_reads (s : State) (c : CellId) :
    ∀ q, (s.stallExpiry c).profile q = s.profile q := by
  simp [State.profile]

@[simp] theorem State.restExpiry_reads (s : State) (c : CellId) :
    (∀ x, (s.restExpiry c).channel x = s.channel x) ∧
    (∀ q, (s.restExpiry c).profile q = s.profile q) ∧
    (∀ d q, (s.restExpiry c).reference d q = s.reference d q) := by
  simp [State.channel, State.profile, State.reference]

@[simp] theorem State.intervalTick_reads (s : State) :
    (∀ d, (s.intervalTick).cell d = s.cell d) ∧ (∀ d, (s.intervalTick).job d = s.job d) ∧
    (∀ d, (s.intervalTick).opportunity d = s.opportunity d) ∧
    (∀ x, (s.intervalTick).channel x = s.channel x) ∧
    (∀ q, (s.intervalTick).profile q = s.profile q) ∧
    (∀ d q, (s.intervalTick).reference d q = s.reference d q) := by
  simp [State.cell, State.job, State.opportunity, State.channel, State.profile, State.reference]

@[simp] theorem State.scanTimerExpiry_reads (s : State) :
    (∀ d, (s.scanTimerExpiry).cell d = s.cell d) ∧
    (∀ x, (s.scanTimerExpiry).channel x = s.channel x) ∧
    (∀ q, (s.scanTimerExpiry).profile q = s.profile q) ∧
    (∀ d q, (s.scanTimerExpiry).reference d q = s.reference d q) := by
  simp [State.cell, State.channel, State.profile, State.reference]

@[simp] theorem State.scanTimerExpiry_reads_job (s : State) :
    ∀ d, (s.scanTimerExpiry).job d = s.job d := by
  intro d; unfold State.scanTimerExpiry; (try dsimp only); (repeat' split) <;> first | rfl | (simp; done) | (simp; rfl) | (simp [Reply.done, Reply.refuse]; done) | (simp [Reply.done]; rfl)

@[simp] theorem State.trigEdge_reads (s : State) :
    (∀ d, (s.trigEdge).cell d = s.cell d) ∧ (∀ x, (s.trigEdge).channel x = s.channel x) ∧
    (∀ q, (s.trigEdge).profile q = s.profile q) ∧
    (∀ d q, (s.trigEdge).reference d q = s.reference d q) := by
  simp [State.cell, State.channel, State.profile, State.reference]

@[simp] theorem State.trigEdge_reads_job (s : State) :
    ∀ d, (s.trigEdge).job d = s.job d := by
  intro d; unfold State.trigEdge; (try dsimp only); (repeat' split) <;> first | rfl | (simp; done) | (simp; rfl) | (simp [Reply.done, Reply.refuse]; done) | (simp [Reply.done]; rfl)

@[simp] theorem State.takeArrival_reads (s : State) (a : Arrival) :
    ∀ q, (s.takeArrival a).profile q = s.profile q := by
  simp [State.profile]

@[simp] theorem State.countTick_reads (s : State) (l : Level) :
    (∀ d, (s.countTick l).job d = s.job d) ∧
    (∀ d, (s.countTick l).opportunity d = s.opportunity d) ∧
    (∀ x, (s.countTick l).channel x = s.channel x) ∧
    (∀ q, (s.countTick l).profile q = s.profile q) ∧
    (∀ d q, (s.countTick l).reference d q = s.reference d q) := by
  simp [State.job, State.opportunity, State.channel, State.profile, State.reference]

@[simp] theorem State.upperCrossing_reads (s : State) (c : CellId) :
    (∀ d, (s.upperCrossing c).job d = s.job d) ∧
    (∀ d, (s.upperCrossing c).opportunity d = s.opportunity d) ∧
    (∀ x, (s.upperCrossing c).channel x = s.channel x) ∧
    (∀ q, (s.upperCrossing c).profile q = s.profile q) ∧
    (∀ d q, (s.upperCrossing c).reference d q = s.reference d q) := by
  simp [State.job, State.opportunity, State.channel, State.profile, State.reference]

@[simp] theorem State.lowerCrossing_reads (s : State) (c : CellId) :
    ∀ q, (s.lowerCrossing c).profile q = s.profile q := by
  simp [State.profile]

@[simp] theorem State.commitApply_reads (s : State) :
    (∀ d, (s.commitApply).cell d = s.cell d) ∧ (∀ d, (s.commitApply).job d = s.job d) ∧
    (∀ d, (s.commitApply).opportunity d = s.opportunity d) ∧
    (∀ x, (s.commitApply).channel x = s.channel x) ∧
    (∀ q, (s.commitApply).profile q = s.profile q) ∧
    (∀ d q, (s.commitApply).reference d q = s.reference d q) := by
  simp [State.cell, State.job, State.opportunity, State.channel, State.profile, State.reference]

@[simp] theorem State.disableCell_reads (s : State) (c : CellId) :
    (∀ x, (s.disableCell c).channel x = s.channel x) ∧
    (∀ q, (s.disableCell c).profile q = s.profile q) := by
  simp [State.channel, State.profile]

@[simp] theorem State.setEnabled_reads (s : State) (ch : Fin 10) (e : Bool) :
    (∀ d, (s.setEnabled ch e).cell d = s.cell d) ∧
    (∀ q, (s.setEnabled ch e).profile q = s.profile q) := by
  simp [State.cell, State.profile]

@[simp] theorem State.clearFault_reads (s : State) (ch : Fin 10) :
    (∀ d, (s.clearFault ch).cell d = s.cell d) ∧
    (∀ q, (s.clearFault ch).profile q = s.profile q) ∧
    (∀ d q, (s.clearFault ch).reference d q = s.reference d q) := by
  simp [State.cell, State.profile, State.reference]

@[simp] theorem State.setTimebase_reads (s : State) (p : Prescale) (n : BitVec 16) :
    (∀ d, (s.setTimebase p n).cell d = s.cell d) ∧ (∀ d, (s.setTimebase p n).job d = s.job d) ∧
    (∀ d, (s.setTimebase p n).opportunity d = s.opportunity d) ∧
    (∀ x, (s.setTimebase p n).channel x = s.channel x) ∧
    (∀ q, (s.setTimebase p n).profile q = s.profile q) := by
  simp [State.cell, State.job, State.opportunity, State.channel, State.profile]

@[simp] theorem State.handPeriod_reads (s : State) (n : BitVec 16) :
    (∀ d, (s.handPeriod n).cell d = s.cell d) ∧ (∀ d, (s.handPeriod n).job d = s.job d) ∧
    (∀ d, (s.handPeriod n).opportunity d = s.opportunity d) ∧
    (∀ x, (s.handPeriod n).channel x = s.channel x) ∧
    (∀ q, (s.handPeriod n).profile q = s.profile q) ∧
    (∀ d q, (s.handPeriod n).reference d q = s.reference d q) := by
  simp [State.cell, State.job, State.opportunity, State.channel, State.profile, State.reference]

@[simp] theorem State.startScan_reads (s : State) :
    (∀ d, (s.startScan).cell d = s.cell d) ∧ (∀ d, (s.startScan).job d = s.job d) ∧
    (∀ d, (s.startScan).opportunity d = s.opportunity d) ∧
    (∀ x, (s.startScan).channel x = s.channel x) ∧ (∀ q, (s.startScan).profile q = s.profile q) ∧
    (∀ d q, (s.startScan).reference d q = s.reference d q) := by
  simp [State.cell, State.job, State.opportunity, State.channel, State.profile, State.reference]

@[simp] theorem State.stopScan_reads (s : State) :
    (∀ d, (s.stopScan).cell d = s.cell d) ∧ (∀ d, (s.stopScan).job d = s.job d) ∧
    (∀ d, (s.stopScan).opportunity d = s.opportunity d) ∧
    (∀ x, (s.stopScan).channel x = s.channel x) ∧ (∀ q, (s.stopScan).profile q = s.profile q) ∧
    (∀ d q, (s.stopScan).reference d q = s.reference d q) := by
  simp [State.cell, State.job, State.opportunity, State.channel, State.profile, State.reference]

@[simp] theorem State.writeProfile_reads (s : State) (p : Fin 4) :
    (∀ d, (s.writeProfile p).cell d = s.cell d) ∧
    (∀ x, (s.writeProfile p).channel x = s.channel x) := by
  simp [State.cell, State.channel]

@[simp] theorem State.submit_reads (s : State) (r : Request) :
    (∀ d, (s.submit r).cell d = s.cell d) ∧ (∀ x, (s.submit r).channel x = s.channel x) ∧
    (∀ q, (s.submit r).profile q = s.profile q) ∧
    (∀ d q, (s.submit r).reference d q = s.reference d q) := by
  simp [State.cell, State.channel, State.profile, State.reference]

@[simp] theorem State.submit_reads_job (s : State) (r : Request) :
    ∀ d, (s.submit r).job d = s.job d := by
  intro d; unfold State.submit; (try dsimp only); (repeat' split) <;> first | rfl | (simp; done) | (simp; rfl) | (simp [Reply.done, Reply.refuse]; done) | (simp [Reply.done]; rfl)

@[simp] theorem State.cancelJob_reads_channel (s : State) (t : Byte) (c : CellId) :
    ∀ x, (s.cancelJob t c).channel x = s.channel x := by
  intro x; unfold State.cancelJob; (try dsimp only); (repeat' split) <;> first | rfl | (simp; done) | (simp; rfl) | (simp [Reply.done, Reply.refuse]; done) | (simp [Reply.done]; rfl)

@[simp] theorem State.cancelJobs_reads_channel (s : State) (t : Byte) :
    ∀ x, (s.cancelJobs t).channel x = s.channel x := by
  intro x; unfold State.cancelJobs; (try dsimp only); (repeat' split) <;> first | rfl | (simp; done) | (simp; rfl) | (simp [Reply.done, Reply.refuse]; done) | (simp [Reply.done]; rfl)

@[simp] theorem cellEnable_reads (s : State) :
    (∀ d, (cellEnable s).state.job d = s.job d) ∧
    (∀ d, (cellEnable s).state.opportunity d = s.opportunity d) ∧
    (∀ x, (cellEnable s).state.channel x = s.channel x) ∧
    (∀ q, (cellEnable s).state.profile q = s.profile q) ∧
    (∀ d q, (cellEnable s).state.reference d q = s.reference d q) := by
  simp [State.job, State.opportunity, State.channel, State.profile, State.reference]

@[simp] theorem cellDisable_reads (s : State) :
    (∀ x, (cellDisable s).state.channel x = s.channel x) ∧
    (∀ q, (cellDisable s).state.profile q = s.profile q) := by
  simp [State.channel, State.profile]

@[simp] theorem channelSet_reads (s : State) :
    (∀ d, (channelSet s).state.cell d = s.cell d) ∧
    (∀ q, (channelSet s).state.profile q = s.profile q) := by
  simp [State.cell, State.profile]

@[simp] theorem channelClearFault_reads (s : State) :
    (∀ d, (channelClearFault s).state.cell d = s.cell d) ∧
    (∀ q, (channelClearFault s).state.profile q = s.profile q) ∧
    (∀ d q, (channelClearFault s).state.reference d q = s.reference d q) := by
  simp [State.cell, State.profile, State.reference]

@[simp] theorem faultThreshold_reads (s : State) :
    (∀ d, (faultThreshold s).state.cell d = s.cell d) ∧
    (∀ d, (faultThreshold s).state.job d = s.job d) ∧
    (∀ d, (faultThreshold s).state.opportunity d = s.opportunity d) ∧
    (∀ q, (faultThreshold s).state.profile q = s.profile q) ∧
    (∀ d q, (faultThreshold s).state.reference d q = s.reference d q) := by
  simp [State.cell, State.job, State.opportunity, State.profile, State.reference]

@[simp] theorem faultThreshold_reads_channel (s : State) :
    ∀ x, (faultThreshold s).state.channel x = s.channel x := by
  intro x; unfold faultThreshold; (try dsimp only); (repeat' split) <;> first | rfl | (simp; done) | (simp; rfl) | (simp [Reply.done, Reply.refuse]; done) | (simp [Reply.done]; rfl)

@[simp] theorem timebaseSet_reads (s : State) :
    (∀ d, (timebaseSet s).state.cell d = s.cell d) ∧
    (∀ d, (timebaseSet s).state.job d = s.job d) ∧
    (∀ d, (timebaseSet s).state.opportunity d = s.opportunity d) ∧
    (∀ x, (timebaseSet s).state.channel x = s.channel x) ∧
    (∀ q, (timebaseSet s).state.profile q = s.profile q) := by
  simp [State.cell, State.job, State.opportunity, State.channel, State.profile]

@[simp] theorem scanConfig_reads (s : State) :
    (∀ d, (scanConfig s).state.cell d = s.cell d) ∧ (∀ d, (scanConfig s).state.job d = s.job d) ∧
    (∀ d, (scanConfig s).state.opportunity d = s.opportunity d) ∧
    (∀ x, (scanConfig s).state.channel x = s.channel x) ∧
    (∀ q, (scanConfig s).state.profile q = s.profile q) ∧
    (∀ d q, (scanConfig s).state.reference d q = s.reference d q) := by
  simp [State.cell, State.job, State.opportunity, State.channel, State.profile, State.reference]

@[simp] theorem scanStart_reads (s : State) :
    (∀ d, (scanStart s).state.cell d = s.cell d) ∧ (∀ d, (scanStart s).state.job d = s.job d) ∧
    (∀ d, (scanStart s).state.opportunity d = s.opportunity d) ∧
    (∀ x, (scanStart s).state.channel x = s.channel x) ∧
    (∀ q, (scanStart s).state.profile q = s.profile q) ∧
    (∀ d q, (scanStart s).state.reference d q = s.reference d q) := by
  simp [State.cell, State.job, State.opportunity, State.channel, State.profile, State.reference]

@[simp] theorem scanOnce_reads (s : State) :
    (∀ d, (scanOnce s).state.cell d = s.cell d) ∧
    (∀ x, (scanOnce s).state.channel x = s.channel x) ∧
    (∀ q, (scanOnce s).state.profile q = s.profile q) ∧
    (∀ d q, (scanOnce s).state.reference d q = s.reference d q) := by
  simp [State.cell, State.channel, State.profile, State.reference]

@[simp] theorem scanOnce_reads_job (s : State) :
    ∀ d, (scanOnce s).state.job d = s.job d := by
  intro d; unfold scanOnce; (try dsimp only); (repeat' split) <;> first | rfl | (simp; done) | (simp; rfl) | (simp [Reply.done, Reply.refuse]; done) | (simp [Reply.done]; rfl)

@[simp] theorem scanStop_reads (s : State) :
    (∀ d, (scanStop s).state.cell d = s.cell d) ∧ (∀ d, (scanStop s).state.job d = s.job d) ∧
    (∀ d, (scanStop s).state.opportunity d = s.opportunity d) ∧
    (∀ x, (scanStop s).state.channel x = s.channel x) ∧
    (∀ q, (scanStop s).state.profile q = s.profile q) ∧
    (∀ d q, (scanStop s).state.reference d q = s.reference d q) := by
  simp [State.cell, State.job, State.opportunity, State.channel, State.profile, State.reference]

@[simp] theorem entryWrite_reads (s : State) :
    (∀ d, (entryWrite s).state.cell d = s.cell d) ∧ (∀ d, (entryWrite s).state.job d = s.job d) ∧
    (∀ d, (entryWrite s).state.opportunity d = s.opportunity d) ∧
    (∀ x, (entryWrite s).state.channel x = s.channel x) ∧
    (∀ q, (entryWrite s).state.profile q = s.profile q) ∧
    (∀ d q, (entryWrite s).state.reference d q = s.reference d q) := by
  simp [State.cell, State.job, State.opportunity, State.channel, State.profile, State.reference]

@[simp] theorem entryRead_reads (s : State) :
    (∀ d, (entryRead s).state.cell d = s.cell d) ∧ (∀ d, (entryRead s).state.job d = s.job d) ∧
    (∀ d, (entryRead s).state.opportunity d = s.opportunity d) ∧
    (∀ x, (entryRead s).state.channel x = s.channel x) ∧
    (∀ q, (entryRead s).state.profile q = s.profile q) ∧
    (∀ d q, (entryRead s).state.reference d q = s.reference d q) := by
  simp [State.cell, State.job, State.opportunity, State.channel, State.profile, State.reference]

@[simp] theorem tableRevert_reads (s : State) :
    (∀ d, (tableRevert s).state.cell d = s.cell d) ∧
    (∀ d, (tableRevert s).state.job d = s.job d) ∧
    (∀ d, (tableRevert s).state.opportunity d = s.opportunity d) ∧
    (∀ x, (tableRevert s).state.channel x = s.channel x) ∧
    (∀ q, (tableRevert s).state.profile q = s.profile q) ∧
    (∀ d q, (tableRevert s).state.reference d q = s.reference d q) := by
  simp [State.cell, State.job, State.opportunity, State.channel, State.profile, State.reference]

@[simp] theorem tableCommit_reads (s : State) :
    (∀ d, (tableCommit s).state.cell d = s.cell d) ∧
    (∀ d, (tableCommit s).state.job d = s.job d) ∧
    (∀ d, (tableCommit s).state.opportunity d = s.opportunity d) ∧
    (∀ x, (tableCommit s).state.channel x = s.channel x) ∧
    (∀ q, (tableCommit s).state.profile q = s.profile q) ∧
    (∀ d q, (tableCommit s).state.reference d q = s.reference d q) := by
  simp [State.cell, State.job, State.opportunity, State.channel, State.profile, State.reference]

@[simp] theorem tableAbandon_reads (s : State) :
    (∀ d, (tableAbandon s).state.cell d = s.cell d) ∧
    (∀ d, (tableAbandon s).state.job d = s.job d) ∧
    (∀ d, (tableAbandon s).state.opportunity d = s.opportunity d) ∧
    (∀ x, (tableAbandon s).state.channel x = s.channel x) ∧
    (∀ q, (tableAbandon s).state.profile q = s.profile q) ∧
    (∀ d q, (tableAbandon s).state.reference d q = s.reference d q) := by
  simp [State.cell, State.job, State.opportunity, State.channel, State.profile, State.reference]

@[simp] theorem profileWrite_reads (s : State) :
    (∀ d, (profileWrite s).state.cell d = s.cell d) ∧
    (∀ x, (profileWrite s).state.channel x = s.channel x) := by
  simp [State.cell, State.channel]

@[simp] theorem profileRead_reads (s : State) :
    (∀ d, (profileRead s).state.cell d = s.cell d) ∧
    (∀ d, (profileRead s).state.job d = s.job d) ∧
    (∀ d, (profileRead s).state.opportunity d = s.opportunity d) ∧
    (∀ x, (profileRead s).state.channel x = s.channel x) ∧
    (∀ d q, (profileRead s).state.reference d q = s.reference d q) := by
  simp [State.cell, State.job, State.opportunity, State.channel, State.reference]

@[simp] theorem referenceInvalidate_reads (s : State) :
    (∀ d, (referenceInvalidate s).state.cell d = s.cell d) ∧
    (∀ d, (referenceInvalidate s).state.job d = s.job d) ∧
    (∀ d, (referenceInvalidate s).state.opportunity d = s.opportunity d) ∧
    (∀ x, (referenceInvalidate s).state.channel x = s.channel x) ∧
    (∀ q, (referenceInvalidate s).state.profile q = s.profile q) := by
  simp [State.cell, State.job, State.opportunity, State.channel, State.profile]

@[simp] theorem requestSubmit_reads (s : State) :
    (∀ d, (requestSubmit s).state.cell d = s.cell d) ∧
    (∀ x, (requestSubmit s).state.channel x = s.channel x) ∧
    (∀ q, (requestSubmit s).state.profile q = s.profile q) ∧
    (∀ d q, (requestSubmit s).state.reference d q = s.reference d q) := by
  simp [State.cell, State.channel, State.profile, State.reference]

@[simp] theorem requestSubmit_reads_job (s : State) :
    ∀ d, (requestSubmit s).state.job d = s.job d := by
  intro d; unfold requestSubmit; (try dsimp only); (repeat' split) <;> first | rfl | (simp; done) | (simp; rfl) | (simp [Reply.done, Reply.refuse]; done) | (simp [Reply.done]; rfl)

@[simp] theorem requestCancel_reads (s : State) :
    (∀ x, (requestCancel s).state.channel x = s.channel x) ∧
    (∀ q, (requestCancel s).state.profile q = s.profile q) ∧
    (∀ d q, (requestCancel s).state.reference d q = s.reference d q) := by
  simp [State.channel, State.profile, State.reference]

@[simp] theorem requestFlush_reads (s : State) :
    (∀ d, (requestFlush s).state.cell d = s.cell d) ∧
    (∀ d, (requestFlush s).state.job d = s.job d) ∧
    (∀ d, (requestFlush s).state.opportunity d = s.opportunity d) ∧
    (∀ x, (requestFlush s).state.channel x = s.channel x) ∧
    (∀ q, (requestFlush s).state.profile q = s.profile q) ∧
    (∀ d q, (requestFlush s).state.reference d q = s.reference d q) := by
  simp [State.cell, State.job, State.opportunity, State.channel, State.profile, State.reference]

@[simp] theorem resultPop_reads (s : State) :
    (∀ d, (resultPop s).state.cell d = s.cell d) ∧
    (∀ x, (resultPop s).state.channel x = s.channel x) ∧
    (∀ q, (resultPop s).state.profile q = s.profile q) ∧
    (∀ d q, (resultPop s).state.reference d q = s.reference d q) := by
  simp [State.cell, State.channel, State.profile, State.reference]

@[simp] theorem resultPop_reads_job (s : State) :
    ∀ d, (resultPop s).state.job d = s.job d := by
  intro d; unfold resultPop; (try dsimp only); (repeat' split) <;> first | rfl | (simp; done) | (simp; rfl) | (simp [Reply.done, Reply.refuse]; done) | (simp [Reply.done]; rfl)

@[simp] theorem resultFlush_reads (s : State) :
    (∀ d, (resultFlush s).state.cell d = s.cell d) ∧
    (∀ x, (resultFlush s).state.channel x = s.channel x) ∧
    (∀ q, (resultFlush s).state.profile q = s.profile q) ∧
    (∀ d q, (resultFlush s).state.reference d q = s.reference d q) := by
  simp [State.cell, State.channel, State.profile, State.reference]

@[simp] theorem resultFlush_reads_job (s : State) :
    ∀ d, (resultFlush s).state.job d = s.job d := by
  intro d; unfold resultFlush; (try dsimp only); (repeat' split) <;> first | rfl | (simp; done) | (simp; rfl) | (simp [Reply.done, Reply.refuse]; done) | (simp [Reply.done]; rfl)

@[simp] theorem resultWatermark_reads (s : State) :
    (∀ d, (resultWatermark s).state.cell d = s.cell d) ∧
    (∀ d, (resultWatermark s).state.job d = s.job d) ∧
    (∀ d, (resultWatermark s).state.opportunity d = s.opportunity d) ∧
    (∀ x, (resultWatermark s).state.channel x = s.channel x) ∧
    (∀ q, (resultWatermark s).state.profile q = s.profile q) ∧
    (∀ d q, (resultWatermark s).state.reference d q = s.reference d q) := by
  simp [State.cell, State.job, State.opportunity, State.channel, State.profile, State.reference]

@[simp] theorem windowAck_reads (s : State) :
    (∀ d, (windowAck s).state.cell d = s.cell d) ∧ (∀ d, (windowAck s).state.job d = s.job d) ∧
    (∀ d, (windowAck s).state.opportunity d = s.opportunity d) ∧
    (∀ x, (windowAck s).state.channel x = s.channel x) ∧
    (∀ q, (windowAck s).state.profile q = s.profile q) ∧
    (∀ d q, (windowAck s).state.reference d q = s.reference d q) := by
  simp [State.cell, State.job, State.opportunity, State.channel, State.profile, State.reference]

@[simp] theorem eventAck_reads (s : State) :
    (∀ d, (eventAck s).state.cell d = s.cell d) ∧ (∀ d, (eventAck s).state.job d = s.job d) ∧
    (∀ d, (eventAck s).state.opportunity d = s.opportunity d) ∧
    (∀ x, (eventAck s).state.channel x = s.channel x) ∧
    (∀ q, (eventAck s).state.profile q = s.profile q) ∧
    (∀ d q, (eventAck s).state.reference d q = s.reference d q) := by
  simp [State.cell, State.job, State.opportunity, State.channel, State.profile, State.reference]

end Sys2Proof.Machine
end

