-- ==== Sys2Proof/Laws/Jobs.lean ====
section
/-!
SUPPORT. What happens to the job contexts and to the result queue when orders and jobs end, said once
for each operation of the dispatcher.
-/
namespace Sys2Proof.Machine

section
variable (s : State) (c : CellId)

@[simp] theorem State.finishJob_job_self (j : Job) (r : Record) :
    (s.finishJob c j r).job c = none := by simp [State.finishJob_job]

@[simp] theorem State.finishJob_job_other (j : Job) (r : Record) :
    (s.finishJob c j r).job c.other = s.job c.other := by simp [State.finishJob_job]

@[simp] theorem State.completeAtDispatch_job_self (j : Job) (st : RecordStatus) :
    (s.completeAtDispatch c j st).job c = none := by simp [State.completeAtDispatch]

@[simp] theorem State.completeAtDispatch_job_other (j : Job) (st : RecordStatus) :
    (s.completeAtDispatch c j st).job c.other = s.job c.other := by
  simp [State.completeAtDispatch]

@[simp] theorem State.abortJob_job_self (j : Job) (st : RecordStatus) :
    (s.abortJob c j st).job c = none := by unfold State.abortJob; dsimp only; simp

@[simp] theorem State.abortJob_job_other (j : Job) (st : RecordStatus) :
    (s.abortJob c j st).job c.other = s.job c.other := by
  unfold State.abortJob; dsimp only; split <;> simp

@[simp] theorem State.deliver_job_other (ch : Fin 10) (o : Outcome) :
    (s.deliver c ch o).job c.other = s.job c.other := by
  unfold State.deliver State.referencePassed State.referenceFailed State.mainCompleted
  dsimp only
  (repeat' split) <;> simp

/-- After an outcome the context is released, or the job stands between its orders. -/
theorem State.deliver_job (ch : Fin 10) (o : Outcome) :
    ((s.deliver c ch o).job c = none) ∨
    ∃ j raw, s.job c = some j ∧ j.phase = .reference ∧ (s.deliver c ch o).job c =
      some { j with pairing := some raw, refreshed := true, phase := .main, slots := 1 } := by
  unfold State.deliver State.referencePassed State.referenceFailed State.mainCompleted
  dsimp only
  split
  · left; rename_i h; simpa using h
  · rename_i j h
    split
    · split
      · rename_i raw
        exact .inr ⟨j, raw, by simpa using h, by assumption, by simp⟩
      · exact .inl (by simp)
    · left; split <;> simp

@[simp] theorem State.deliver_cell_self (ch : Fin 10) (o : Outcome) :
    (s.deliver c ch o).cell c = (s.cell c).rest := by simp [State.cell, State.deliver_cells]

@[simp] theorem State.deliver_cell_other (ch : Fin 10) (o : Outcome) :
    (s.deliver c ch o).cell c.other = s.cell c.other := by
  simp [State.cell, State.deliver_cells]

@[simp] theorem State.giveOrder_cell_self (o : Order) :
    (s.giveOrder c o).cell c = (s.cell c).take o := by simp [State.giveOrder]

@[simp] theorem State.giveOrder_cell_other (o : Order) :
    (s.giveOrder c o).cell c.other = s.cell c.other := by simp [State.giveOrder]

@[simp] theorem State.settleCell_cell_other (r : Cell × Option Outcome) :
    (s.settleCell c r).cell c.other = s.cell c.other := by
  unfold State.settleCell; dsimp only; split <;> simp

@[simp] theorem State.settleCell_job_other (r : Cell × Option Outcome) :
    (s.settleCell c r).job c.other = s.job c.other := by
  unfold State.settleCell; dsimp only; split <;> simp

@[simp] theorem State.dispatchWork_cell_other (w : Work) (v : Judgement) :
    (s.dispatchWork c w v).cell c.other = s.cell c.other := by
  unfold State.dispatchWork; dsimp only; split <;> simp

@[simp] theorem State.dispatchWork_job_other (w : Work) (v : Judgement) :
    (s.dispatchWork c w v).job c.other = s.job c.other := by
  unfold State.dispatchWork; dsimp only; split <;> simp

@[simp] theorem State.attempt_cell_other : (s.attempt c).cell c.other = s.cell c.other := by
  unfold State.attempt; dsimp only; (repeat' split) <;> simp

@[simp] theorem State.attempt_job_other : (s.attempt c).job c.other = s.job c.other := by
  unfold State.attempt; dsimp only; (repeat' split) <;> simp

@[simp] theorem State.restExpiry_cell_other : (s.restExpiry c).cell c.other = s.cell c.other := by
  unfold State.restExpiry State.recheck; dsimp only; (repeat' split) <;> simp

@[simp] theorem State.restExpiry_job_other : (s.restExpiry c).job c.other = s.job c.other := by
  unfold State.restExpiry State.recheck; dsimp only; (repeat' split) <;> simp
end

end Sys2Proof.Machine
end

