-- ==== Sys2Proof/Laws/Steps.lean ====
section
/-!
SUPPORT. What a step can do, said once: how a property passes through the report of a command, the
arrivals of a tick, the command decoder and a step, so that an invariant needs one lemma for each
row's own effect.
-/
namespace Sys2Proof.Machine

/-- Every command answers a next state. -/
theorem exec_answers (c : Instr) (s : State) : ∃ t, exec c s = .next t := by
  cases c <;> exact ⟨_, rfl⟩

/-- A command taken at its location leaves what its rule leaves, with its report. -/
theorem State.takeCommand_at {s : State} (h : s.atCommand = true) (code : Byte)
    (body : State → Reply) :
    s.takeCommand code body =
      let r := body { s with port := s.port.complete code }
      { r.state with command :=
        { r.state.command with code := code, status := r.status, result := r.result } } := by
  simp [State.takeCommand, h]

/-- Away from the command location nothing is taken. -/
theorem State.takeCommand_away {s : State} (h : s.atCommand = false) (code : Byte)
    (body : State → Reply) : s.takeCommand code body = s := by
  simp [State.takeCommand, h]

section
variable (P : State → Prop)

/-- A property that reads neither the port nor the command unit passes through a command when the
command's own rule keeps it. -/
theorem State.takeCommand_keeps
    (port : ∀ s p, P s → P { s with port := p }) (command : ∀ s u, P s → P { s with command := u })
    {body : State → Reply} (rule : ∀ s, P s → P (body s).state) {s : State} (code : Byte)
    (h : P s) : P (s.takeCommand code body) := by
  unfold State.takeCommand
  split
  · exact command _ _ (rule _ (port _ _ h))
  · exact h

theorem State.takeArrivals_keeps (arrival : ∀ s a, P s → P (s.takeArrival a)) (l : List Arrival)
    {s : State} (h : P s) : P (s.takeArrivals l) := by
  induction l generalizing s with
  | nil => exact h
  | cons a l ih => exact ih (arrival s a h)

theorem State.takeDue_keeps (free : ∀ s n, P s → P { s with freeIndex := n })
    (arrival : ∀ s a, P s → P (s.takeArrival a)) {s : State} (h : P s) : P s.takeDue := by
  unfold State.takeDue
  split
  · exact State.takeArrivals_keeps P arrival _ (State.takeArrivals_keeps P arrival _
      (State.takeArrivals_keeps P arrival _ (State.takeArrivals_keeps P arrival _ (free _ _ h))))
  · exact h

theorem State.timebaseTick_keeps (free : ∀ s n, P s → P { s with freeIndex := n })
    (arrival : ∀ s a, P s → P (s.takeArrival a)) (count : ∀ s l, P s → P (s.countTick l))
    {s : State} (l : Level) (h : P s) : P (s.timebaseTick l) := by
  unfold State.timebaseTick
  split
  · exact h
  · exact count _ _ (State.takeDue_keeps P free arrival h)
end

/-- The rules a code can name (R195, R200). -/
theorem commandOf_keeps {Q : (State → Reply) → Prop} (code : Byte)
    (cellEnable : Q cellEnable) (cellDisable : Q cellDisable) (channelSet : Q channelSet)
    (channelClearFault : Q channelClearFault) (faultThreshold : Q faultThreshold)
    (timebaseSet : Q timebaseSet) (scanConfig : Q scanConfig) (scanStart : Q scanStart)
    (scanOnce : Q scanOnce) (scanStop : Q scanStop) (entryWrite : Q entryWrite)
    (entryRead : Q entryRead) (tableRevert : Q tableRevert) (tableCommit : Q tableCommit)
    (tableAbandon : Q tableAbandon) (profileWrite : Q profileWrite) (profileRead : Q profileRead)
    (referenceInvalidate : Q referenceInvalidate) (requestSubmit : Q requestSubmit)
    (requestCancel : Q requestCancel) (requestFlush : Q requestFlush) (resultPop : Q resultPop)
    (resultFlush : Q resultFlush) (resultWatermark : Q resultWatermark) (windowAck : Q windowAck)
    (eventAck : Q eventAck) (softReset : Q softReset) (bad : ∀ b, Q (badCode b)) :
    Q (commandOf code) := by
  unfold commandOf
  split <;> first | assumption | exact bad code

section
variable (P : State → Prop)

/-- A property of the state is kept by every step when it does not read the queue, and each of these
keeps it: the report of a command, the rules of the commands, the rows of the port and of RESET#,
the arrivals, and the counting of a tick. -/
theorem step_keeps
    (pending : ∀ s l, P s → P { s with pending := l })
    (wire : ∀ s l, P s → P { s with wire := l })
    (rise : ∀ s l, P s → P (s.sckRise l)) (fall : ∀ s, P s → P s.sckFall)
    (free : ∀ s n, P s → P { s with freeIndex := n })
    (prescaler : ∀ s n, P s → P { s with timebase := { s.timebase with prescalerPhase := n } })
    (command : ∀ (s : State) code (body : State → Reply), P s →
      ((∀ s', P s' → P (body s').state)) → P (s.takeCommand code body))
    (rules : ∀ code s, P s → P (commandOf code s).state)
    (write : ∀ s b, P s → P (s.writeByte b)) (enable : ∀ s b, P s → P (s.writeEnable b))
    (latch : ∀ s, P s → P s.latchCounter) (copy : ∀ s, P s → P s.copySnapshot)
    (begin' : ∀ s, P s → P s.beginFrame) (header : ∀ s b, P s → P (s.takeHeader b))
    (fin' : ∀ s, P s → P s.endFrame)
    (reset : ∀ s, P s → P s.deviceReset) (release : ∀ s, P s → P s.releaseReset)
    (upper : ∀ s c, P s → P (s.upperCrossing c)) (lower : ∀ s c, P s → P (s.lowerCrossing c))
    (commit : ∀ s, P s → P s.commitApply)
    (arrival : ∀ s a, P s → P (s.takeArrival a)) (count : ∀ s l, P s → P (s.countTick l))
    {s t : State} (h : P s) (hs : step s = .next t) : P t := by
  have tick : ∀ s l, P s → P (s.timebaseTick l) := fun s l h =>
    State.timebaseTick_keeps P free arrival count l h
  unfold step at hs
  split at hs
  · obtain rfl : s.idle = t := by simpa using hs
    have clkin : ∀ s, P s → P s.clkin := by
      intro s h
      unfold State.clkin
      split
      · exact h
      · split
        · exact tick _ _ h
        · exact prescaler _ _ (State.takeDue_keeps P free arrival h)
    unfold State.idle
    split
    · exact clkin _ h
    · rename_i e rest _
      have h' := wire s rest h
      cases e with
      | sckRises sdi => exact rise _ _ h'
      | sckFalls => exact fall _ h'
      | period => exact clkin _ h'
      | row c => exact pending _ _ h'
  · rename_i c rest hq
    have h' := pending s rest h
    generalize ({ s with pending := rest } : State) = u at hs h'
    have cmd : ∀ code, P (u.takeCommand code (commandOf code)) := fun code =>
      command u code _ h' (rules code)
    cases c <;> simp only [exec] at hs
    case cellEnable => obtain rfl := Host.Outcome.next.inj hs; exact cmd 0x10
    case cellDisable => obtain rfl := Host.Outcome.next.inj hs; exact cmd 0x11
    case channelSet => obtain rfl := Host.Outcome.next.inj hs; exact cmd 0x18
    case channelClearFault => obtain rfl := Host.Outcome.next.inj hs; exact cmd 0x19
    case faultThreshold => obtain rfl := Host.Outcome.next.inj hs; exact cmd 0x1A
    case timebaseSet => obtain rfl := Host.Outcome.next.inj hs; exact cmd 0x20
    case scanConfig => obtain rfl := Host.Outcome.next.inj hs; exact cmd 0x28
    case scanStart => obtain rfl := Host.Outcome.next.inj hs; exact cmd 0x29
    case scanOnce => obtain rfl := Host.Outcome.next.inj hs; exact cmd 0x2A
    case scanStop => obtain rfl := Host.Outcome.next.inj hs; exact cmd 0x2B
    case entryWrite => obtain rfl := Host.Outcome.next.inj hs; exact cmd 0x30
    case entryRead => obtain rfl := Host.Outcome.next.inj hs; exact cmd 0x31
    case tableRevert => obtain rfl := Host.Outcome.next.inj hs; exact cmd 0x32
    case tableCommit => obtain rfl := Host.Outcome.next.inj hs; exact cmd 0x33
    case tableAbandon => obtain rfl := Host.Outcome.next.inj hs; exact cmd 0x34
    case profileWrite => obtain rfl := Host.Outcome.next.inj hs; exact cmd 0x38
    case profileRead => obtain rfl := Host.Outcome.next.inj hs; exact cmd 0x39
    case referenceInvalidate => obtain rfl := Host.Outcome.next.inj hs; exact cmd 0x3A
    case requestSubmit => obtain rfl := Host.Outcome.next.inj hs; exact cmd 0x40
    case requestCancel => obtain rfl := Host.Outcome.next.inj hs; exact cmd 0x41
    case requestFlush => obtain rfl := Host.Outcome.next.inj hs; exact cmd 0x42
    case resultPop => obtain rfl := Host.Outcome.next.inj hs; exact cmd 0x48
    case resultFlush => obtain rfl := Host.Outcome.next.inj hs; exact cmd 0x49
    case resultWatermark => obtain rfl := Host.Outcome.next.inj hs; exact cmd 0x4A
    case windowAck => obtain rfl := Host.Outcome.next.inj hs; exact cmd 0x50
    case eventAck => obtain rfl := Host.Outcome.next.inj hs; exact cmd 0x51
    case softReset => obtain rfl := Host.Outcome.next.inj hs; exact cmd 0x5A
    case badCommand code =>
      obtain rfl := Host.Outcome.next.inj hs
      split
      · exact h'
      · exact command u code _ h' fun _ h => h
    case eventEnableWrite b => obtain rfl := Host.Outcome.next.inj hs; exact enable _ _ h'
    case registerWrite b => obtain rfl := Host.Outcome.next.inj hs; exact write _ _ h'
    case intervalCounterLatch => obtain rfl := Host.Outcome.next.inj hs; exact latch _ h'
    case resultSnapshotCopy => obtain rfl := Host.Outcome.next.inj hs; exact copy _ h'
    case frameBegin => obtain rfl := Host.Outcome.next.inj hs; exact begin' _ h'
    case header b => obtain rfl := Host.Outcome.next.inj hs; exact header _ _ h'
    case frameEnd => obtain rfl := Host.Outcome.next.inj hs; exact fin' _ h'
    case deviceReset => obtain rfl := Host.Outcome.next.inj hs; exact reset _ h'
    case resetRelease => obtain rfl := Host.Outcome.next.inj hs; exact release _ h'
    case upperCrossing c => obtain rfl := Host.Outcome.next.inj hs; exact upper _ _ h'
    case lowerCrossing c => obtain rfl := Host.Outcome.next.inj hs; exact lower _ _ h'
    case commitApply => obtain rfl := Host.Outcome.next.inj hs; exact commit _ h'
    case timebaseTick l => obtain rfl := Host.Outcome.next.inj hs; exact tick _ _ h'
    case trigEdge => obtain rfl := Host.Outcome.next.inj hs; exact arrival _ .trigEdge h'
    case intervalTick => obtain rfl := Host.Outcome.next.inj hs; exact arrival _ .intervalTick h'
    case scanTimerExpiry =>
      obtain rfl := Host.Outcome.next.inj hs; exact arrival _ .scanTimerExpiry h'
    case restExpiry c => obtain rfl := Host.Outcome.next.inj hs; exact arrival _ (.restExpiry c) h'
    case gateExpiry c => obtain rfl := Host.Outcome.next.inj hs; exact arrival _ (.gateExpiry c) h'
    case prechargeExpiry c =>
      obtain rfl := Host.Outcome.next.inj hs; exact arrival _ (.prechargeExpiry c) h'
    case stallExpiry c => obtain rfl := Host.Outcome.next.inj hs; exact arrival _ (.stallExpiry c) h'
    case periodOverflow c =>
      obtain rfl := Host.Outcome.next.inj hs; exact arrival _ (.periodOverflow c) h'
    case dispatchAttempt c =>
      obtain rfl := Host.Outcome.next.inj hs; exact arrival _ (.dispatchAttempt c) h'
/-- The same for a property that reads neither the port, the command unit, the enable set, the images,
the snapshot, the latch nor the prescaler phase: what is left are the rules of the commands, the
resets, the crossings, the arrivals and the counting of a tick. -/
theorem step_keeps_inner
    (pending : ∀ s l, P s → P { s with pending := l })
    (wire : ∀ s l, P s → P { s with wire := l })
    (free : ∀ s n, P s → P { s with freeIndex := n })
    (prescaler : ∀ s n, P s → P { s with timebase := { s.timebase with prescalerPhase := n } })
    (latch : ∀ s v, P s → P { s with timebase := { s.timebase with latch := v } })
    (port : ∀ s p, P s → P { s with port := p })
    (command : ∀ s u, P s → P { s with command := u })
    (enable : ∀ s v, P s → P { s with events := { s.events with enable := v } })
    (entryImage : ∀ s v, P s → P { s with scan := { s.scan with image := v } })
    (profileImage : ∀ s v, P s → P { s with profiles := { s.profiles with image := v } })
    (requestImage : ∀ s v, P s → P { s with requests := { s.requests with image := v } })
    (snapshot : ∀ s v b, P s →
      P { s with results := { s.results with snapshot := v, current := b } })
    (rules : ∀ code s, P s → P (commandOf code s).state)
    (reset : ∀ s, P s → P s.deviceReset)
    (release : ∀ s b, P s → P { s with resetHeld := b })
    (upper : ∀ s c, P s → P (s.upperCrossing c)) (lower : ∀ s c, P s → P (s.lowerCrossing c))
    (commit : ∀ s, P s → P s.commitApply)
    (arrival : ∀ s a, P s → P (s.takeArrival a)) (count : ∀ s l, P s → P (s.countTick l))
    {s t : State} (h : P s) (hs : step s = .next t) : P t := by
  have takes : ∀ (s : State) code (body : State → Reply), P s →
      (∀ s', P s' → P (body s').state) → P (s.takeCommand code body) :=
    fun s code body h rule => State.takeCommand_keeps P port command rule code h
  have enables : ∀ s b, P s → P (s.writeEnable b) := by
    intro s b h
    unfold State.writeEnable
    split
    · exact port _ _ (enable s b h)
    · exact h
  have writes : ∀ s b, P s → P (s.writeByte b) := by
    intro s b h
    unfold State.writeByte
    split
    · split
      · exact takes s b _ h (fun s' h' => rules b s' h')
      · split
        · exact enables s b h
        · refine port _ _ ?_
          unfold State.windowWrite
          (repeat' split)
          · exact command _ _ h
          · exact entryImage _ _ h
          · exact profileImage _ _ h
          · exact requestImage _ _ h
          · exact h
    · exact h
  have latches : ∀ s, P s → P s.latchCounter := by
    intro s h
    unfold State.latchCounter
    split
    · exact port _ _ (latch s s.timebase.counter h)
    · exact h
  have copies : ∀ s, P s → P s.copySnapshot := by
    intro s h
    unfold State.copySnapshot
    split
    · exact port _ _ (snapshot s s.headBytes (decide (s.results.records ≠ [])) h)
    · exact h
  have headers : ∀ s b, P s → P (s.takeHeader b) := by
    intro s b h; unfold State.takeHeader; split <;> first | exact h | exact port _ _ h
  have falls : ∀ s, P s → P s.sckFall := by
    intro s h
    unfold State.sckFall State.loadByte
    (repeat' split)
    · exact latches _ h
    · exact copies _ h
    all_goals first | exact h | exact port _ _ h
  have rises : ∀ s l, P s → P (s.sckRise l) := by
    intro s l h
    unfold State.sckRise
    split
    · exact h
    · split
      · exact port _ _ h
      · dsimp only
        have h' := port s (s.port.capture l) h
        split
        · unfold State.byteComplete
          split
          · exact h'
          · exact headers _ _ h'
          · exact writes _ _ h'
          · exact port _ _ h'
        · exact h'
  refine step_keeps P pending wire rises falls free prescaler takes rules writes enables latches
    copies ?_ headers ?_ reset (fun s h => release s false h) upper lower commit arrival count h hs
  · intro s h; unfold State.beginFrame; (repeat' split) <;> first | exact h | exact port _ _ h
  · intro s h
    unfold State.endFrame
    split
    · exact port _ _ (falls _ h)
    · exact h
end

end Sys2Proof.Machine
end

