-- ==== Sys2Proof/Laws/Due.lean ====
section
/-!
SUPPORT. What taking the arrivals that are due does (log 3): with the registers in their ranges it
leaves nothing due. On the way: what each arrival leaves of the scan timer, and of its cell.
-/
namespace Sys2Proof.Machine

/-! ### The scan timer -/

/-- The scan timer after a step of the scan: as it was, or stopped with a pending period current. -/
def ScanTimer.KeptOrStopped (t t' : ScanTimer) : Prop :=
  t' = t ∨ t' = { t with
    running := false, period := t.pendingPeriod.getD t.period, pendingPeriod := none }

section
variable {t : ScanTimer} {s : State} (c : CellId)

theorem ScanTimer.kept (h : s.timer = t) : t.KeptOrStopped s.timer := .inl h

theorem State.reachStopped_timer (h : s.timer = t) : t.KeptOrStopped s.reachStopped.timer := by
  right; subst h; simp [State.reachStopped]

theorem State.completionCheck_timer (h : s.timer = t) :
    t.KeptOrStopped s.completionCheck.timer := by
  unfold State.completionCheck
  dsimp only
  (repeat' split)
  · exact State.reachStopped_timer (by simpa using h)
  · exact .inl (by simpa using h)
  · exact .inl h
  · exact State.reachStopped_timer (by simpa using h)
  all_goals exact .inl h

theorem State.finishJob_timer (h : s.timer = t) (j : Job) (r : Record) :
    t.KeptOrStopped (s.finishJob c j r).timer := by
  unfold State.finishJob
  split
  · dsimp only
    rw [State.setJob_timer]
    exact State.completionCheck_timer (by simpa using h)
  · exact .inl (by simpa using h)

theorem State.deliver_timer (h : s.timer = t) (ch : Fin 10) (o : Outcome) :
    t.KeptOrStopped (s.deliver c ch o).timer := by
  unfold State.deliver State.referencePassed State.referenceFailed State.mainCompleted
  dsimp only
  (repeat' split) <;>
    first
      | exact .inl (by simpa using h)
      | exact State.finishJob_timer c (by simpa using h) _ _

theorem State.settleCell_timer (h : s.timer = t) (r : Cell × Option Outcome) :
    t.KeptOrStopped (s.settleCell c r).timer := by
  unfold State.settleCell
  dsimp only
  split
  · exact State.deliver_timer c (by simpa using h) _ _
  · exact .inl (by simpa using h)

theorem State.completeAtDispatch_timer (h : s.timer = t) (j : Job) (st : RecordStatus) :
    t.KeptOrStopped (s.completeAtDispatch c j st).timer := by
  unfold State.completeAtDispatch
  rw [(State.offer_frame _ c).2.2.2.2.2.2.2.2.2.1]
  exact State.finishJob_timer c h _ _

theorem State.attempt_timer (h : s.timer = t) : t.KeptOrStopped (s.attempt c).timer := by
  unfold State.attempt State.dispatchWork
  dsimp only
  (repeat' split) <;>
    first
      | exact .inl (by simpa using h)
      | exact State.completeAtDispatch_timer c (by simpa using h) _ _

theorem State.restExpiry_timer (h : s.timer = t) : t.KeptOrStopped (s.restExpiry c).timer := by
  unfold State.restExpiry State.recheck
  dsimp only
  (repeat' split) <;>
    first
      | exact .inl (by simpa using h)
      | exact State.completeAtDispatch_timer c (by simpa using h) _ _

theorem State.cycleStartEvent_timer (h : s.timer = t) :
    t.KeptOrStopped s.cycleStartEvent.timer := by
  unfold State.cycleStartEvent State.startCycle
  dsimp only
  (repeat' split) <;>
    first
      | exact .inl (by simpa using h)
      | exact State.completionCheck_timer (by simpa using h)
end

/-! ### What an arrival leaves of a cell and its job -/

/-- What arrivals need of a state so that taking one leaves it not due: part of `RangesHold`. -/
structure Arrivable (s : State) : Prop where
  awake : s.resetHeld = false
  divider : 100 ≤ s.timebase.divider.toNat
  period : s.timer.period ≠ 0
  pendingPeriod : s.timer.pendingPeriod ≠ some 0
  profiles : ∀ p : Fin 4, (s.profile p).legal = true
  copies : ∀ c, (s.job c).all (fun j => j.copy.legal) = true
  orders : ∀ c, (s.cell c).order.all Order.legal = true

theorem RangesHold.arrivable {s : State} (h : RangesHold s) (hr : s.resetHeld = false) :
    Arrivable s :=
  ⟨hr, h.divider, h.period, h.pendingPeriod, h.profiles, h.copies, h.orders⟩

theorem orderOf_legal (ch : Fin 10) (m : Averaging) {p : Profile} (h : p.legal = true) :
    (orderOf ch p m).legal = true := by
  simp only [Profile.legal, Bool.and_eq_true, decide_eq_true_eq] at h
  simp [Order.legal, orderOf, h]

section
variable (s : State) (c : CellId)

/-- A cell-by-cell statement from one cell and the other. -/
theorem CellId.all_of {P : CellId → Prop} (h : P c) (h' : P c.other) : ∀ d, P d := by
  cases c <;> rintro (_ | _) <;> assumption

theorem ScanTimer.KeptOrStopped.fine {t t' : ScanTimer} (h : t.KeptOrStopped t')
    (p : t.period ≠ 0) (q : t.pendingPeriod ≠ some 0) :
    t'.period ≠ 0 ∧ t'.pendingPeriod ≠ some 0 := by
  rcases h with rfl | rfl
  · exact ⟨p, q⟩
  · refine ⟨?_, by simp⟩
    dsimp only
    cases hp : t.pendingPeriod with
    | none => simpa using p
    | some x => intro e; exact q (by rw [hp]; simpa using e)

/-- An arrival of a cell that keeps its timer, its jobs and its orders in range keeps the rest. -/
theorem Arrivable.of_cell {s t : State} (h : Arrivable s) (c : CellId)
    (held : t.resetHeld = s.resetHeld) (timebase : t.timebase.divider = s.timebase.divider)
    (timer : s.timer.KeptOrStopped t.timer) (profiles : t.profiles = s.profiles)
    (otherCell : t.cell c.other = s.cell c.other) (otherJob : t.job c.other = s.job c.other)
    (copy : (t.job c).all (fun j => j.copy.legal) = true)
    (order : (t.cell c).order.all Order.legal = true) : Arrivable t := by
  obtain ⟨p, q⟩ := timer.fine h.period h.pendingPeriod
  refine ⟨held ▸ h.awake, timebase ▸ h.divider, p, q, ?_, ?_, ?_⟩
  · intro x; rw [State.profile, profiles]; exact h.profiles x
  · exact CellId.all_of c copy (by rw [otherJob]; exact h.copies _)
  · exact CellId.all_of c order (by rw [otherCell]; exact h.orders _)

/-- A job that stays after an outcome keeps its copy. -/
theorem State.deliver_copy (ch : Fin 10) (o : Outcome)
    (h : (s.job c).all (fun j => j.copy.legal) = true) :
    ((s.deliver c ch o).job c).all (fun j => j.copy.legal) = true := by
  rcases s.deliver_job c ch o with e | ⟨j, raw, hj, -, e⟩
  · rw [e]; rfl
  · rw [e]; rw [hj] at h; simpa using h

theorem State.settleCell_arrivable {r : Cell × Option Outcome} (h : Arrivable s)
    (ho : r.1.order = (s.cell c).order) : Arrivable (s.settleCell c r) := by
  refine h.of_cell c (by simp) (by simp) (State.settleCell_timer c rfl r) (by simp) (by simp)
    (by simp) ?_ ?_
  · unfold State.settleCell
    dsimp only
    split
    · exact State.deliver_copy _ _ _ _ (by simpa using h.copies c)
    · simpa using h.copies c
  · rcases s.settleCell_cells c r with e | ⟨e, -⟩
    · simp only [State.cell, e, PerCell.get_set]; rw [ho]; exact h.orders c
    · simp only [State.cell, e, PerCell.get_set]; rfl

theorem State.completeAtDispatch_arrivable (h : Arrivable s) (j : Job) (st : RecordStatus) :
    Arrivable (s.completeAtDispatch c j st) :=
  h.of_cell c (by simp) (by simp) (State.completeAtDispatch_timer c rfl j st) (by simp)
    (by simp) (by simp) (by simp) (by simpa using h.orders c)

theorem State.giveOrder_arrivable (h : Arrivable s) {o : Order} (ho : o.legal = true) :
    Arrivable (s.giveOrder c o) :=
  h.of_cell c (by simp) (by simp) (.inl (by simp)) (by simp) (by simp) (by simp)
    (by simpa using h.copies c) (by
      rw [State.giveOrder_cell_self]
      unfold Cell.take Cell.precharge
      dsimp only
      split <;> simpa using ho)
end

section
variable {s : State} (c : CellId)

theorem Arrivable.of_rest {s t : State} (h : Arrivable s) (held : t.resetHeld = s.resetHeld)
    (timebase : t.timebase.divider = s.timebase.divider)
    (timer : t.timer.period ≠ 0 ∧ t.timer.pendingPeriod ≠ some 0)
    (profiles : t.profiles = s.profiles) (cells : t.cells = s.cells)
    (jobs : ∀ d, t.job d = s.job d) : Arrivable t :=
  ⟨held ▸ h.awake, timebase ▸ h.divider, timer.1, timer.2,
    fun x => by rw [State.profile, profiles]; exact h.profiles x,
    fun d => by rw [jobs]; exact h.copies d,
    fun d => by rw [State.cell, cells]; exact h.orders d⟩

theorem State.cycleStartEvent_arrivable (h : Arrivable s) : Arrivable s.cycleStartEvent :=
  h.of_rest (by simp) (by simp)
    ((State.cycleStartEvent_timer rfl).fine h.period h.pendingPeriod) (by simp) (by simp)
    (by simp)

theorem State.dispatchWork_arrivable (h : Arrivable s) (w : Work) (v : Judgement) :
    Arrivable (s.dispatchWork c w v) := by
  have hp := h.profiles w.profile
  have h0 : Arrivable (((s.reserve v.slots).withdraw c w).setJob c (some (s.jobOf c w v))) :=
    h.of_cell c (by simp) (by simp) (.inl (by simp)) (by simp) (by simp [State.cell]) (by simp)
      (by simpa [State.jobOf] using hp) (by simpa [State.cell] using h.orders c)
  have hc : (s.jobOf c w v).copy = s.profile w.profile := rfl
  unfold State.dispatchWork
  dsimp only
  split
  · exact State.completeAtDispatch_arrivable _ _ h0 _ _
  · exact State.completeAtDispatch_arrivable _ _ h0 _ _
  · exact State.giveOrder_arrivable _ _ h0 (orderOf_legal _ _ hp)
  · refine State.giveOrder_arrivable _ _ ?_ (orderOf_legal _ _ hp)
    exact h0.of_rest (by simp) (by simp) ⟨by simpa using h0.period, by simpa using h0.pendingPeriod⟩
      (by simp) (by simp) (by simp [State.job])
  · exact State.giveOrder_arrivable _ _ h0 (orderOf_legal _ _ hp)

theorem State.setOpportunity_arrivable (h : Arrivable s) (b : Bool) :
    Arrivable (s.setOpportunity c b) :=
  h.of_rest rfl rfl ⟨h.period, h.pendingPeriod⟩ rfl rfl (by simp)

theorem State.attempt_arrivable (h : Arrivable s) : Arrivable (s.attempt c) := by
  unfold State.attempt
  dsimp only
  (repeat' split) <;>
    first
      | exact h
      | exact State.setOpportunity_arrivable c h _
      | exact State.dispatchWork_arrivable c (State.setOpportunity_arrivable c h _) _ _

theorem State.restExpiry_arrivable (h : Arrivable s) : Arrivable (s.restExpiry c) := by
  have h0 : Arrivable (s.setCell c (s.cell c).endRest) :=
    h.of_cell c rfl rfl (.inl rfl) rfl (by simp) rfl (h.copies c) (by simp [Cell.endRest])
  unfold State.restExpiry State.recheck
  dsimp only
  split
  · split
    · exact h0.of_rest (by simp) (by simp)
        ⟨by simpa using h0.period, by simpa using h0.pendingPeriod⟩ (by simp) (by simp) (by simp)
    · rename_i j hj
      split
      · refine State.giveOrder_arrivable _ _ h0 (orderOf_legal _ _ ?_)
        have := h0.copies c
        rw [hj] at this
        simpa using this
      · exact State.completeAtDispatch_arrivable _ _ h0 _ _
  · exact h

/-- Taking an arrival keeps what arrivals need. -/
theorem State.takeArrival_arrivable (s : State) (a : Arrival) (h : Arrivable s) :
    Arrivable (s.takeArrival a) := by
  cases a with
  | intervalTick =>
    exact h.of_rest (by simp [State.takeArrival]) (by simp [State.takeArrival])
      ⟨by simpa [State.takeArrival] using h.period,
        by simpa [State.takeArrival] using h.pendingPeriod⟩
      (by simp) (by simp [State.takeArrival]) (by simp [State.takeArrival, State.job])
  | scanTimerExpiry =>
    simp only [State.takeArrival, State.scanTimerExpiry]
    split
    · refine State.cycleStartEvent_arrivable (h.of_rest rfl rfl ?_ rfl rfl (fun _ => rfl))
      refine ⟨?_, by simp [ScanTimer.reload]⟩
      have q := h.pendingPeriod
      simp only [ScanTimer.reload]
      cases hp : s.timer.pendingPeriod with
      | none => simpa using h.period
      | some x => intro e; exact q (by rw [hp]; simpa using e)
    · exact h
  | trigEdge =>
    simp only [State.takeArrival, State.trigEdge]
    have h0 := h.of_rest (t := { s with trig := { s.trig with
      filtered := s.trig.filtered.flip, confirming := 0 } }) rfl rfl ⟨h.period, h.pendingPeriod⟩
      rfl rfl (fun _ => rfl)
    split
    · split
      · exact State.cycleStartEvent_arrivable h0
      · exact h0
    · exact h
  | gateExpiry c =>
    simp only [State.takeArrival, State.gateExpiry]
    split
    · exact State.settleCell_arrivable _ c h (Cell.expireGate_sameStage _).1
    · exact h
  | prechargeExpiry c =>
    simp only [State.takeArrival, State.prechargeExpiry]
    split
    · exact State.settleCell_arrivable _ c h (Cell.releaseCapacitor_sameStage (by assumption)).1
    · exact h
  | periodOverflow c =>
    simp only [State.takeArrival, State.periodOverflow]
    split
    · exact State.settleCell_arrivable _ c h rfl
    · exact h
  | stallExpiry c =>
    simp only [State.takeArrival, State.stallExpiry]
    split
    · exact State.settleCell_arrivable _ c h rfl
    · exact h
  | restExpiry c => exact State.restExpiry_arrivable c h
  | dispatchAttempt c => exact State.attempt_arrivable c h
end

/-! ### A cell with nothing due -/

/-- No expiry of the cell is due. -/
structure Cell.Quiet (k : Cell) : Prop where
  gate : k.gateDue = false
  precharge : k.prechargeDue = false
  overflow : k.overflowDue = false
  stall : k.stallDue = false
  rest : k.restDue = false

theorem Cell.rest_quiet (k : Cell) : k.rest.Quiet := by
  constructor <;> simp [Cell.rest, Cell.gateDue, Cell.prechargeDue, Cell.overflowDue,
    Cell.stallDue, Cell.restDue, Config.restTime]

theorem Cell.endRest_quiet (k : Cell) : k.endRest.Quiet := by
  constructor <;> simp [Cell.endRest, Cell.gateDue, Cell.prechargeDue, Cell.overflowDue,
    Cell.stallDue, Cell.restDue]

theorem Cell.take_quiet (k : Cell) {o : Order} (h : o.legal = true) : (k.take o).Quiet := by
  simp only [Order.legal, Bool.and_eq_true, decide_eq_true_eq] at h
  obtain ⟨⟨⟨-, -⟩, h1, -⟩, h2, -⟩ := h
  cases hm : o.method <;> constructor <;>
    simp [Cell.take, hm, Cell.precharge, Cell.gateDue, Cell.prechargeDue, Cell.overflowDue,
      Cell.stallDue, Cell.restDue] <;> omega

section
variable (s : State) (c : CellId)

theorem State.settleCell_cell_none (k : Cell) :
    (s.settleCell c (k, none)).cell c = k := by simp

theorem State.settleCell_cell_some (k : Cell) (o : Outcome) (h : k.order ≠ none) :
    (s.settleCell c (k, some o)).cell c = k.rest := by
  obtain ⟨order, h⟩ := Option.ne_none_iff_exists'.mp h
  simp [State.settleCell_some _ _ _ _ h]

/-- Once taken, a gate expiry is not due. -/
theorem State.gateExpiry_gate : ((s.gateExpiry c).cell c).gateDue = false := by
  unfold State.gateExpiry
  split
  · rename_i h
    obtain ⟨o, ho⟩ : ∃ o, (s.cell c).order = some o := by
      unfold Cell.gateDue at h; split at h
      · exact ⟨_, by assumption⟩
      · simp at h
    have he := Cell.expireGate_sameStage (s.cell c)
    have hp : (s.cell c).expireGate.1.phaseTimer = .stopped := by
      unfold Cell.expireGate Cell.completeSample
      rw [ho]; dsimp only; (repeat' split) <;> rfl
    have e : (s.settleCell c (s.cell c).expireGate).cell c = (s.cell c).expireGate.1 ∨
        (s.settleCell c (s.cell c).expireGate).cell c = (s.cell c).expireGate.1.rest := by
      rcases s.settleCell_cells c (s.cell c).expireGate with e | ⟨e, -⟩
      · exact .inl ((congrArg (PerCell.get · c) e).trans (PerCell.get_set ..))
      · exact .inr ((congrArg (PerCell.get · c) e).trans (PerCell.get_set ..))
    rcases e with e | e <;> rw [e]
    · unfold Cell.gateDue; split <;> simp [hp]
    · exact (Cell.rest_quiet _).gate
  · rename_i h; simpa using h

/-- A precharge expiry, taken after the gate's, leaves neither due. -/
theorem State.prechargeExpiry_due (h : (s.cell c).gateDue = false) :
    ((s.prechargeExpiry c).cell c).gateDue = false ∧
      ((s.prechargeExpiry c).cell c).prechargeDue = false := by
  unfold State.prechargeExpiry
  split
  · rename_i hd
    have ho : (s.cell c).order ≠ none := by
      simp only [Cell.prechargeDue, Bool.and_eq_true] at hd
      exact Option.isSome_iff_ne_none.mp hd.2
    unfold Cell.releaseCapacitor
    split
    · rw [State.settleCell_cell_some _ _ _ _ ho]
      exact ⟨(Cell.rest_quiet _).gate, (Cell.rest_quiet _).precharge⟩
    · rw [State.settleCell_cell_none]
      constructor
      · unfold Cell.gateDue; split <;> simp
      · simp [Cell.prechargeDue]
  · rename_i hd; exact ⟨h, by simpa using hd⟩

theorem State.periodOverflow_due :
    ((s.periodOverflow c).cell c).overflowDue = false ∧
      ((s.periodOverflow c).cell c = s.cell c ∨ ((s.periodOverflow c).cell c).Quiet) := by
  unfold State.periodOverflow
  split
  · rename_i hd
    have ho : (s.cell c).order ≠ none := by
      unfold Cell.overflowDue at hd; split at hd
      · simp [*]
      · simp at hd
    rw [State.settleCell_cell_some _ _ _ _ ho]
    exact ⟨(Cell.rest_quiet _).overflow, .inr (Cell.rest_quiet _)⟩
  · rename_i hd; exact ⟨by simpa using hd, .inl rfl⟩

theorem State.stallExpiry_due :
    ((s.stallExpiry c).cell c).stallDue = false ∧
      ((s.stallExpiry c).cell c = s.cell c ∨ ((s.stallExpiry c).cell c).Quiet) := by
  unfold State.stallExpiry
  split
  · rename_i hd
    have ho : (s.cell c).order ≠ none := by
      unfold Cell.stallDue at hd; split at hd
      · simp [*]
      · simp at hd
    rw [State.settleCell_cell_some _ _ _ _ ho]
    exact ⟨(Cell.rest_quiet _).stall, .inr (Cell.rest_quiet _)⟩
  · rename_i hd; exact ⟨by simpa using hd, .inl rfl⟩

theorem State.restExpiry_due (h : Arrivable s) :
    ((s.restExpiry c).cell c).restDue = false ∧
      ((s.restExpiry c).cell c = s.cell c ∨ ((s.restExpiry c).cell c).Quiet) := by
  unfold State.restExpiry State.recheck
  dsimp only
  split
  · have q := (s.cell c).endRest_quiet
    suffices hq : ∀ t : State, (t.cell c).Quiet →
        (t.cell c).restDue = false ∧ (t.cell c = s.cell c ∨ (t.cell c).Quiet) by
      apply hq
      split
      · simpa using q
      · rename_i j hj
        split
        · rw [State.giveOrder_cell_self]
          have := h.copies c
          rw [show s.job c = some j from hj] at this
          exact Cell.take_quiet _ (orderOf_legal _ _ (by simpa using this))
        · simpa [State.cell] using q
    exact fun t ht => ⟨ht.rest, .inr ht⟩
  · rename_i hd; exact ⟨by simpa using hd, .inl rfl⟩

/-- The five expiries of a cell. -/
def cellExpiries (c : CellId) : List Arrival :=
  [.gateExpiry c, .prechargeExpiry c, .periodOverflow c, .stallExpiry c, .restExpiry c]

/-- The sweep over a cell leaves none of its expiries due. -/
theorem State.cellExpiries_quiet (h : Arrivable s) :
    ((s.takeArrivals (cellExpiries c)).cell c).Quiet := by
  have keep := State.takeArrival_arrivable
  simp only [cellExpiries, State.takeArrivals, List.foldl_cons, List.foldl_nil]
  have h1 := keep s (.gateExpiry c) h
  have g1 := s.gateExpiry_gate c
  change ((s.takeArrival (.gateExpiry c)).cell c).gateDue = false at g1
  generalize s.takeArrival (.gateExpiry c) = s1 at *
  have h2 := keep s1 (.prechargeExpiry c) h1
  have g2 := s1.prechargeExpiry_due c g1
  change ((s1.takeArrival (.prechargeExpiry c)).cell c).gateDue = false ∧
    ((s1.takeArrival (.prechargeExpiry c)).cell c).prechargeDue = false at g2
  generalize s1.takeArrival (.prechargeExpiry c) = s2 at *
  have h3 := keep s2 (.periodOverflow c) h2
  have g3 := s2.periodOverflow_due c
  change ((s2.takeArrival (.periodOverflow c)).cell c).overflowDue = false ∧
    ((s2.takeArrival (.periodOverflow c)).cell c = s2.cell c ∨ _) at g3
  have g3' : ((s2.takeArrival (.periodOverflow c)).cell c).gateDue = false ∧
      ((s2.takeArrival (.periodOverflow c)).cell c).prechargeDue = false := by
    rcases g3.2 with e | q
    · rw [e]; exact g2
    · exact ⟨q.gate, q.precharge⟩
  generalize s2.takeArrival (.periodOverflow c) = s3 at *
  have h4 := keep s3 (.stallExpiry c) h3
  have g4 := s3.stallExpiry_due c
  change ((s3.takeArrival (.stallExpiry c)).cell c).stallDue = false ∧
    ((s3.takeArrival (.stallExpiry c)).cell c = s3.cell c ∨ _) at g4
  have g4' : ((s3.takeArrival (.stallExpiry c)).cell c).gateDue = false ∧
      ((s3.takeArrival (.stallExpiry c)).cell c).prechargeDue = false ∧
      ((s3.takeArrival (.stallExpiry c)).cell c).overflowDue = false := by
    rcases g4.2 with e | q
    · rw [e]; exact ⟨g3'.1, g3'.2, g3.1⟩
    · exact ⟨q.gate, q.precharge, q.overflow⟩
  generalize s3.takeArrival (.stallExpiry c) = s4 at *
  have g5 := s4.restExpiry_due c h4
  change ((s4.takeArrival (.restExpiry c)).cell c).restDue = false ∧
    ((s4.takeArrival (.restExpiry c)).cell c = s4.cell c ∨ _) at g5
  rcases g5.2 with e | q
  · refine ⟨?_, ?_, ?_, ?_, g5.1⟩ <;> rw [e]
    exacts [g4'.1, g4'.2.1, g4'.2.2, g4.1]
  · exact q
end

section
variable (s : State) (c : CellId)

/-! ### The attempts of a cell -/

/-- How many candidates wait. -/
def State.waiting (s : State) : Nat := s.requests.queue.length + s.scan.due.length

/-- The candidate of a cell leaves its queue or list. -/
theorem State.withdraw_waiting {w : Work} (h : s.candidate c = some w) :
    (s.withdraw c w).waiting < s.waiting := by
  unfold State.candidate at h
  split at h
  · rename_i r hr
    obtain rfl := Option.some.inj h
    have hm := List.mem_of_find?_eq_some hr
    have hp := List.find?_some hr
    have hl := List.length_eraseP_of_mem
      (p := fun r : Request => decide (cellOf r.channel = c)) hm hp
    have hn := List.length_pos_of_mem hm
    simp only [State.withdraw, Request.work, State.waiting, hl]
    omega
  · obtain ⟨i, hi, hw⟩ := List.exists_of_findSome?_eq_some h
    have ho : ∃ n, w.origin = .scan i n := by
      unfold State.dueWork at hw
      dsimp only at hw
      split at hw
      · split at hw
        · obtain rfl := Option.some.inj hw; exact ⟨_, rfl⟩
        · simp at hw
      · simp at hw
    obtain ⟨n, ho⟩ := ho
    have hl := List.length_erase_of_mem hi
    have hn := List.length_pos_of_mem hi
    simp only [State.withdraw, ho, State.waiting, State.setScan, hl]
    omega

theorem State.completeAtDispatch_waiting (j : Job) (st : RecordStatus) :
    (s.completeAtDispatch c j st).waiting = s.waiting := by
  simp [State.waiting]

theorem State.dispatchWork_progress {w : Work} (v : Judgement) (h : s.candidate c = some w)
    (h0 : s.opportunity c = false) :
    (s.dispatchWork c w v).opportunity c = false ∨ (s.dispatchWork c w v).waiting < s.waiting := by
  have hc : (s.reserve v.slots).candidate c = some w := h
  have hl := State.withdraw_waiting _ c hc
  unfold State.dispatchWork
  dsimp only
  split
  · right; rw [State.completeAtDispatch_waiting]; exact hl
  · right; rw [State.completeAtDispatch_waiting]; exact hl
  all_goals left; simpa using h0

@[simp] theorem State.dispatchWork_opportunity_other (w : Work) (v : Judgement) :
    (s.dispatchWork c w v).opportunity c.other = s.opportunity c.other := by
  unfold State.dispatchWork State.completeAtDispatch
  dsimp only
  split <;> simp [State.offer_opportunity]

/-- An attempt uses its opportunity up, or a candidate leaves. -/
theorem State.attempt_progress :
    (s.attempt c).opportunity c = false ∨ (s.attempt c).waiting < s.waiting := by
  unfold State.attempt
  dsimp only
  split
  · have h0 : (s.setOpportunity c false).opportunity c = false := by
      simp [State.opportunity_setOpportunity]
    split
    · split
      · exact .inl h0
      · rename_i w hw
        split
        · exact State.dispatchWork_progress _ c _ hw h0
        · exact .inl h0
    · exact .inl h0
  · rename_i h; exact .inl (by simpa using h)

@[simp] theorem State.attempt_opportunity_other :
    (s.attempt c).opportunity c.other = s.opportunity c.other := by
  unfold State.attempt
  dsimp only
  (repeat' split) <;> simp [State.opportunity_setOpportunity]

theorem State.attempt_quiet (h : Arrivable s) (q : (s.cell c).Quiet) :
    ((s.attempt c).cell c).Quiet := by
  have hg : ∀ (u : State) (o : Order), o.legal = true → ((u.giveOrder c o).cell c).Quiet := by
    intro u o ho; rw [State.giveOrder_cell_self]; exact Cell.take_quiet _ ho
  unfold State.attempt State.dispatchWork
  dsimp only
  (repeat' split) <;>
    first
      | exact q
      | exact hg _ _ (orderOf_legal _ _ (h.profiles _))
      | simpa [State.cell] using q

theorem State.timerDue_of {s t : State} (h : s.timer.KeptOrStopped t.timer)
    (hs : s.timerDue = false) : t.timerDue = false := by
  unfold State.timerDue at *
  rcases h with e | e <;> rw [e]
  · exact hs
  · rfl

/-- Enough attempts of a cell leave it no opportunity, and its expiries stay not due. -/
theorem State.attempts_end (n : Nat) {s : State} (h : Arrivable s) (q : (s.cell c).Quiet)
    (hn : s.opportunity c = false ∨ s.waiting < n) :
    let t := s.takeArrivals (List.replicate n (.dispatchAttempt c))
    Arrivable t ∧ (t.cell c).Quiet ∧ t.opportunity c = false ∧ t.cell c.other = s.cell c.other ∧
      t.opportunity c.other = s.opportunity c.other ∧ t.timebase = s.timebase ∧
      t.trig = s.trig ∧ (s.timerDue = false → t.timerDue = false) := by
  induction n generalizing s with
  | zero =>
    rcases hn with hn | hn
    · exact ⟨h, q, hn, rfl, rfl, rfl, rfl, id⟩
    · omega
  | succ n ih =>
    have hn' : (s.attempt c).opportunity c = false ∨ (s.attempt c).waiting < n := by
      rcases hn with hn | hn
      · left
        have e : s.attempt c = s := by simp [State.attempt, hn]
        rw [e]; exact hn
      · rcases s.attempt_progress c with e | e
        · exact .inl e
        · right; omega
    obtain ⟨a, b, d, e, f, g, i, j⟩ :=
      ih (State.attempt_arrivable c h) (State.attempt_quiet _ c h q) hn'
    refine ⟨a, b, d, ?_, ?_, ?_, ?_, fun hd => j (State.timerDue_of (State.attempt_timer c rfl) hd)⟩
    · exact e.trans (by simp)
    · exact f.trans (by simp)
    · exact g.trans (by simp)
    · exact i.trans (by simp)
end

section
variable (s : State) (c : CellId)

/-- No arrival of the timebase is due. -/
structure State.ClockQuiet (s : State) : Prop where
  interval : s.intervalDue = false
  timer : s.timerDue = false
  edge : s.edgeDue = false

theorem State.ClockQuiet.of {s t : State} (h : s.ClockQuiet) (held : t.resetHeld = s.resetHeld)
    (timebase : t.timebase = s.timebase) (trig : t.trig = s.trig)
    (timer : t.timerDue = false) : t.ClockQuiet :=
  ⟨by simpa [State.intervalDue, held, timebase] using h.interval, timer,
    by simpa [State.edgeDue, trig] using h.edge⟩

/-- The interval tick, the timer's expiry and the edge, taken in turn, leave none of them due. -/
theorem State.clock_quiet (h : Arrivable s) :
    (s.takeArrivals [.intervalTick, .scanTimerExpiry, .trigEdge]).ClockQuiet := by
  simp only [State.takeArrivals, List.foldl_cons, List.foldl_nil]
  have h1 := State.takeArrival_arrivable s .intervalTick h
  have g1 : (s.takeArrival .intervalTick).intervalDue = false := by
    simp only [State.takeArrival, State.intervalTick]
    split
    · have := h.divider
      simp [State.intervalDue]; omega
    · rename_i hd; simpa using hd
  generalize s.takeArrival .intervalTick = s1 at *
  have h2 := State.takeArrival_arrivable s1 .scanTimerExpiry h1
  have g2 : (s1.takeArrival .scanTimerExpiry).intervalDue = false ∧
      (s1.takeArrival .scanTimerExpiry).timerDue = false := by
    refine ⟨by simpa [State.takeArrival, State.intervalDue] using g1, ?_⟩
    simp only [State.takeArrival, State.scanTimerExpiry]
    split
    · refine State.timerDue_of (State.cycleStartEvent_timer rfl) ?_
      have q := h1.pendingPeriod
      have p := h1.period
      have e : (s1.timer.pendingPeriod.getD s1.timer.period).toNat ≠ 0 := by
        intro e
        cases hp : s1.timer.pendingPeriod with
        | none => rw [hp] at e; exact p (BitVec.eq_of_toNat_eq e)
        | some x => rw [hp] at e q; exact q (congrArg some (BitVec.eq_of_toNat_eq e))
      simp [State.timerDue, ScanTimer.reload, e]
    · rename_i hd; simpa using hd
  generalize s1.takeArrival .scanTimerExpiry = s2 at *
  have g3 : (s2.takeArrival .trigEdge).timerDue = false ∧
      (s2.takeArrival .trigEdge).edgeDue = false := by
    simp only [State.takeArrival, State.trigEdge]
    split
    · split
      · exact ⟨State.timerDue_of (State.cycleStartEvent_timer rfl) g2.2, by simp [State.edgeDue]⟩
      · exact ⟨g2.2, rfl⟩
    · rename_i hd; exact ⟨g2.2, by simpa using hd⟩
  exact ⟨by simpa [State.takeArrival, State.intervalDue] using g2.1, g3.1, g3.2⟩

/-- The sweep over a cell leaves the clock and the other cell as they stand. -/
theorem State.cellExpiries_keep :
    let t := s.takeArrivals (cellExpiries c)
    t.cell c.other = s.cell c.other ∧ t.timebase = s.timebase ∧ t.trig = s.trig ∧
      t.resetHeld = s.resetHeld ∧ (s.timerDue = false → t.timerDue = false) := by
  have key : ∀ u : State, ∀ a ∈ cellExpiries c,
      (u.takeArrival a).cell c.other = u.cell c.other ∧ (u.takeArrival a).timebase = u.timebase ∧
      (u.takeArrival a).trig = u.trig ∧ (u.takeArrival a).resetHeld = u.resetHeld ∧
      (u.timerDue = false → (u.takeArrival a).timerDue = false) := by
    intro u a ha
    have hs : ∀ r, u.timerDue = false → (u.settleCell c r).timerDue = false := fun r h =>
      State.timerDue_of (State.settleCell_timer c rfl r) h
    simp only [cellExpiries, List.mem_cons, List.not_mem_nil, or_false] at ha
    rcases ha with rfl | rfl | rfl | rfl | rfl <;> simp only [State.takeArrival]
    · refine ⟨?_, by simp, by simp, by simp, ?_⟩ <;> unfold State.gateExpiry <;> split <;> simp_all
    · refine ⟨?_, by simp, by simp, by simp, ?_⟩ <;> unfold State.prechargeExpiry <;> split <;>
        simp_all
    · refine ⟨?_, by simp, by simp, by simp, ?_⟩ <;> unfold State.periodOverflow <;> split <;>
        simp_all
    · refine ⟨?_, by simp, by simp, by simp, ?_⟩ <;> unfold State.stallExpiry <;> split <;> simp_all
    · exact ⟨by simp, by simp, by simp, by simp, State.timerDue_of (State.restExpiry_timer c rfl)⟩
  have run : ∀ l : List Arrival, (∀ a ∈ l, a ∈ cellExpiries c) → ∀ u : State,
      (u.takeArrivals l).cell c.other = u.cell c.other ∧
      (u.takeArrivals l).timebase = u.timebase ∧ (u.takeArrivals l).trig = u.trig ∧
      (u.takeArrivals l).resetHeld = u.resetHeld ∧
      (u.timerDue = false → (u.takeArrivals l).timerDue = false) := by
    intro l
    induction l with
    | nil => intro _ u; exact ⟨rfl, rfl, rfl, rfl, id⟩
    | cons a l ih =>
      intro hl u
      obtain ⟨k1, k2, k3, k4, k5⟩ := key u a (hl a (by simp))
      obtain ⟨i1, i2, i3, i4, i5⟩ := ih (fun b hb => hl b (by simp [hb])) (u.takeArrival a)
      exact ⟨i1.trans k1, i2.trans k2, i3.trans k3, i4.trans k4, fun h => i5 (k5 h)⟩
  exact run _ (fun _ h => h) s

theorem State.anyDue_of {s : State} (k : s.ClockQuiet) (q : ∀ c, (s.cell c).Quiet)
    (o : ∀ c, s.opportunity c = false) : s.anyDue = false := by
  simp [State.anyDue, expiries, State.due, k.interval, k.timer, k.edge, (q _).gate, (q _).precharge,
    (q _).overflow, (q _).stall, (q _).rest, o]

theorem State.takeArrivals_append (l m : List Arrival) :
    s.takeArrivals (l ++ m) = (s.takeArrivals l).takeArrivals m := by
  simp [State.takeArrivals]

/-- Taking what is due leaves nothing due (log 3). -/
theorem State.takeDue_leaves_nothing_due (h : Arrivable s) : s.takeDue.anyDue = false := by
  unfold State.takeDue
  split
  · dsimp only
    have h0 : Arrivable { s with freeIndex := s.freeIndex + 1 } :=
      h.of_rest rfl rfl ⟨h.period, h.pendingPeriod⟩ rfl rfl (fun _ => rfl)
    have h1 := State.takeArrivals_keeps Arrivable State.takeArrival_arrivable
      (Config.arrivalOrder s.freeIndex) h0
    generalize State.takeArrivals _ (Config.arrivalOrder s.freeIndex) = s1 at *
    have e : s1.takeArrivals expiries =
        ((s1.takeArrivals [.intervalTick, .scanTimerExpiry, .trigEdge]).takeArrivals
          (cellExpiries .a)).takeArrivals (cellExpiries .b) := by
      rw [← State.takeArrivals_append, ← State.takeArrivals_append]; rfl
    rw [e]
    have c2 := s1.clock_quiet h1
    have h2 := State.takeArrivals_keeps Arrivable State.takeArrival_arrivable
      [.intervalTick, .scanTimerExpiry, .trigEdge] h1
    generalize s1.takeArrivals [.intervalTick, .scanTimerExpiry, .trigEdge] = s2 at *
    have h3 := State.takeArrivals_keeps Arrivable State.takeArrival_arrivable (cellExpiries .a) h2
    have q3 := s2.cellExpiries_quiet .a h2
    obtain ⟨-, t3, g3, r3, d3⟩ := s2.cellExpiries_keep .a
    have c3 := c2.of r3 t3 g3 (d3 c2.timer)
    generalize s2.takeArrivals (cellExpiries .a) = s3 at *
    have h4 := State.takeArrivals_keeps Arrivable State.takeArrival_arrivable (cellExpiries .b) h3
    have q4 := s3.cellExpiries_quiet .b h3
    obtain ⟨o4, t4, g4, r4, d4⟩ := s3.cellExpiries_keep .b
    have c4 := c3.of r4 t4 g4 (d4 c3.timer)
    replace q3 : ((s3.takeArrivals (cellExpiries .b)).cell .a).Quiet := by
      rw [show (s3.takeArrivals (cellExpiries .b)).cell .a = s3.cell .a from o4]; exact q3
    generalize s3.takeArrivals (cellExpiries .b) = s4 at *
    have bound : ∀ u : State, u.waiting < u.attemptBound := fun u => by
      simp [State.waiting, State.attemptBound]
    obtain ⟨h5, q5, p5, o5, -, t5, g5, d5⟩ :=
      State.attempts_end .a s4.attemptBound h4 q3 (.inr (bound s4))
    have c5 := c4.of (h5.awake.trans h4.awake.symm) t5 g5 (d5 c4.timer)
    generalize s4.takeArrivals (List.replicate s4.attemptBound (.dispatchAttempt .a)) = s5 at *
    have q5' : (s5.cell .b).Quiet := by rw [show s5.cell .b = s4.cell .b from o5]; exact q4
    obtain ⟨h6, q6, p6, o6, b6, t6, g6, d6⟩ :=
      State.attempts_end .b s5.attemptBound h5 q5' (.inr (bound s5))
    have c6 := c5.of (h6.awake.trans h5.awake.symm) t6 g6 (d6 c5.timer)
    generalize s5.takeArrivals (List.replicate s5.attemptBound (.dispatchAttempt .b)) = s6 at *
    refine State.anyDue_of c6 ?_ ?_
    · rintro (_ | _)
      · rw [show s6.cell .a = s5.cell .a from o6]; exact q5
      · exact q6
    · rintro (_ | _)
      · exact b6.trans p5
      · exact p6
  · rename_i hd; simpa using hd
end

/-- Arrivals move neither the prescaler phase nor the pins. -/
theorem State.takeArrivals_pins (s : State) (l : List Arrival) :
    (s.takeArrivals l).timebase.prescalerPhase = s.timebase.prescalerPhase ∧
      (s.takeArrivals l).trig.pin = s.trig.pin := by
  induction l generalizing s with
  | nil => exact ⟨rfl, rfl⟩
  | cons a l ih =>
    have h : (s.takeArrival a).timebase.prescalerPhase = s.timebase.prescalerPhase ∧
        (s.takeArrival a).trig.pin = s.trig.pin := by
      cases a <;> simp only [State.takeArrival]
      case intervalTick => unfold State.intervalTick; split <;> simp
      case trigEdge =>
        unfold State.trigEdge
        dsimp only
        split
        · split <;> simp
        · simp
      all_goals simp
    exact ⟨(ih (s.takeArrival a)).1.trans h.1, (ih (s.takeArrival a)).2.trans h.2⟩

/-- What a tick takes is what its arrivals leave, in some order. -/
theorem State.takeDue_order (s : State) (h : s.anyDue = true) : ∃ order : List Arrival,
    s.takeDue = ({ s with freeIndex := s.freeIndex + 1 } : State).takeArrivals order := by
  unfold State.takeDue
  simp only [h, if_true, ← State.takeArrivals_append]
  exact ⟨_, rfl⟩

end Sys2Proof.Machine
end

