-- ==== Sys2Proof/Laws/Endings.lean ====
section
/-!
SUPPORT. What taking an order, the completion check and the end of a job do, said once, in the terms of
Safety.lean.
-/
namespace Sys2Proof.Machine

theorem Cell.take_takes (k : Cell) (o : Order) : TakesOrder k o (k.take o) := by
  constructor <;> intro h <;> cases hm : o.method <;> simp_all [Cell.take, Cell.precharge]

theorem State.reachStopped_stops (s : State) : ScanStops s s.reachStopped := by
  by_cases h : s.scan.commitPending = true <;> constructor <;>
    simp [State.reachStopped, State.applyPending, State.applyCommit, State.raise, h,
      WindowMonitor.resetChanged, Scan.changed]

theorem State.completionCheck_checked (s : State) : CompletionChecked s s.completionCheck := by
  constructor
  · intro h1 h2 h3 h4
    simp [State.completionCheck, h1, h2, h3, h4, State.setScan, State.raise]
  · intro h1 h2 h3 h4
    have e : s.completionCheck =
        (((s.setScan { s.scan with single := false }).raise .scanDone).raise
          .scanStopped).reachStopped := by
      simp [State.completionCheck, h1, h2, h3, h4, State.setScan, State.raise]
    rw [e]; exact State.reachStopped_stops _
  · intro h1 h2
    have e : s.completionCheck = (s.raise .scanStopped).reachStopped := by
      simp [State.completionCheck, h1, h2]
    rw [e]; exact State.reachStopped_stops _
  · rintro (h | h | h | ⟨h, h'⟩)
    · simp [State.completionCheck, h]
    · simp [State.completionCheck, h]
    · cases h1 : s.scan.state <;> simp [State.completionCheck, h1, h]
    · simp [State.completionCheck, h, h']

theorem CompletionChecked.congr {u t t' : State} (h : CompletionChecked u t)
    (scan : t'.scan = t.scan) (timer : t'.timer = t.timer) (windows : t'.windows = t.windows)
    (events : t'.events = t.events) : CompletionChecked u t' := by
  obtain ⟨a, b, c, d⟩ := h
  constructor
  · rw [scan, timer, windows, events]; exact a
  · intro h1 h2 h3 h4
    obtain ⟨p, q, r, x, y⟩ := b h1 h2 h3 h4
    exact ⟨by rw [scan, p], by rw [timer, q], by rw [windows]; exact r,
      by rw [windows]; exact x, by rw [events, y]⟩
  · intro h1 h2
    obtain ⟨p, q, r, x, y⟩ := c h1 h2
    exact ⟨by rw [scan, p], by rw [timer, q], by rw [windows]; exact r,
      by rw [windows]; exact x, by rw [events, y]⟩
  · rw [scan, timer, windows, events]; exact d

theorem ScanStops.from_eq {u u' t : State} (h : ScanStops u t)
    (scan : u'.scan = u.scan) (timer : u'.timer = u.timer) (windows : u'.windows = u.windows)
    (events : u'.events = u.events) : ScanStops u' t := by
  obtain ⟨a, b, c, d, e⟩ := h
  refine ⟨by rw [scan, a], by rw [timer, b], by rw [scan, windows]; exact c,
    by rw [scan, windows]; exact d, ?_⟩
  rw [e, scan]
  split
  · simp [State.raise, events]
  · exact events.symm

/-- The check reads the scan sequencer, the scan timer, the windows and the events alone. -/
theorem CompletionChecked.from_eq {u u' t : State} (h : CompletionChecked u t)
    (scan : u'.scan = u.scan) (timer : u'.timer = u.timer) (windows : u'.windows = u.windows)
    (events : u'.events = u.events) : CompletionChecked u' t := by
  obtain ⟨a, b, c, d⟩ := h
  have r : ∀ e : LatchedEvent, (u'.raise e).events = (u.raise e).events := fun e => by
    simp [State.raise, events]
  constructor
  · rw [scan, timer, windows, r]; exact a
  · intro h1 h2 h3 h4
    exact (b (scan ▸ h1) (scan ▸ h2) (scan ▸ h3) (scan ▸ h4)).from_eq (by simp [scan])
      (by simpa using timer) (by simpa using windows) (by simp [State.raise, events])
  · intro h1 h2
    exact (c (scan ▸ h1) (scan ▸ h2)).from_eq (by simpa using scan)
      (by simpa using timer) (by simpa using windows) (by simp [State.raise, events])
  · rw [scan, timer, windows, events]; exact d

theorem State.monitor_kind (s : State) (i : Fin 16) (r : Record) :
    (s.monitor i r).1.kind = r.kind := by
  unfold State.monitor; split <;> rfl

/-- The end of a job with a record of its own kind. -/
theorem State.finishJob_ends (s : State) (c : CellId) (j : Job) (r : Record)
    (hk : r.kind = j.origin.kind) : JobEnds s c j r (s.finishJob c j r) := by
  cases ho : j.origin with
  | request tag =>
    have hk' : r.kind = .request := by rw [hk, ho]; rfl
    constructor
    · simp
    · simp
    · simp [State.finishJob, ho, State.append, hk', State.raise]
    · simp [State.finishJob, ho, State.append, hk', State.raise]
    · intro tag' _
      simp [State.finishJob, ho, State.append, hk', State.raise]
    · intro i n h; simp [ho] at h
  | scan i n =>
    have hk' : (s.monitor i r).1.kind ≠ .request := by
      rw [State.monitor_kind, hk, ho]; simp [Origin.kind]
    have e : s.finishJob c j r = (((s.monitor i r).2.append (s.monitor i r).1).endScanJob).setJob c
        none := by simp [State.finishJob, ho]
    constructor
    · simp
    · simp
    · rw [e]; simp [State.endScanJob, State.append, hk']
    · rw [e]; simp [State.endScanJob, State.append, hk']
    · intro tag h; simp [ho] at h
    · intro i' n' h
      obtain ⟨rfl, rfl⟩ : i = i' ∧ n = n' := by simpa [ho] using h
      dsimp only
      refine ⟨by rw [e]; simp [State.endScanJob, State.append, hk'], ?_⟩
      have h := State.completionCheck_checked
        (((s.monitor i r).2.append (s.monitor i r).1).setScan
          { s.scan with jobsInFlight := s.scan.jobsInFlight - 1 })
      have e' : s.finishJob c j r = ((((s.monitor i r).2.append (s.monitor i r).1).setScan
          { s.scan with jobsInFlight := s.scan.jobsInFlight - 1 }).completionCheck).setJob c
          none := by rw [e]; simp [State.endScanJob]
      rw [e']
      refine CompletionChecked.congr (CompletionChecked.from_eq h ?_ ?_ ?_ ?_) rfl rfl rfl rfl <;>
        simp [State.append, hk']

end Sys2Proof.Machine
end

