-- ==== Sys2Proof/WellFormed.lean ====
section
/-!
DEFINITION. Which commands are well formed: a BAD_COMMAND row stands only for a code that the
command summary does not hold (R195, R200). Every other operand value is a value of its row.
-/
namespace Sys2Proof

/-- Well-formed commands. -/
def WellFormed : Instr → Bool
  | .badCommand code => !(Config.commandCodes.contains code)
  | _ => true

end Sys2Proof
end

