-- ==== Sys2Proof/Laws/PerInstr.lean ====
section
/-!
SUPPORT. What holds of every command as syntax, one lemma for each constructor: a command is well
formed exactly when it is no BAD_COMMAND with a code of the command summary (R195, R200).
-/
namespace Sys2Proof.Laws.Describes
open Sys2Proof

/-- The command stands for what its row describes: only a BAD_COMMAND row asks anything of its
operand. -/
def Statement (i : Instr) : Prop :=
  WellFormed i = true ↔ ∀ code, i = .badCommand code → code ∉ Config.commandCodes

/-- Every row but BAD_COMMAND is well formed with every operand. -/
theorem of_wellFormed {i : Instr} (h : WellFormed i = true) (hi : ∀ code, i ≠ .badCommand code) :
    Statement i :=
  ⟨fun _ code e => absurd e (hi code), fun _ => h⟩

theorem cellEnable : Statement .cellEnable :=
  of_wellFormed rfl nofun

theorem cellDisable : Statement .cellDisable :=
  of_wellFormed rfl nofun

theorem channelSet : Statement .channelSet :=
  of_wellFormed rfl nofun

theorem channelClearFault : Statement .channelClearFault :=
  of_wellFormed rfl nofun

theorem faultThreshold : Statement .faultThreshold :=
  of_wellFormed rfl nofun

theorem timebaseSet : Statement .timebaseSet :=
  of_wellFormed rfl nofun

theorem scanConfig : Statement .scanConfig :=
  of_wellFormed rfl nofun

theorem scanStart : Statement .scanStart :=
  of_wellFormed rfl nofun

theorem scanOnce : Statement .scanOnce :=
  of_wellFormed rfl nofun

theorem scanStop : Statement .scanStop :=
  of_wellFormed rfl nofun

theorem entryWrite : Statement .entryWrite :=
  of_wellFormed rfl nofun

theorem entryRead : Statement .entryRead :=
  of_wellFormed rfl nofun

theorem tableRevert : Statement .tableRevert :=
  of_wellFormed rfl nofun

theorem tableCommit : Statement .tableCommit :=
  of_wellFormed rfl nofun

theorem tableAbandon : Statement .tableAbandon :=
  of_wellFormed rfl nofun

theorem profileWrite : Statement .profileWrite :=
  of_wellFormed rfl nofun

theorem profileRead : Statement .profileRead :=
  of_wellFormed rfl nofun

theorem referenceInvalidate : Statement .referenceInvalidate :=
  of_wellFormed rfl nofun

theorem requestSubmit : Statement .requestSubmit :=
  of_wellFormed rfl nofun

theorem requestCancel : Statement .requestCancel :=
  of_wellFormed rfl nofun

theorem requestFlush : Statement .requestFlush :=
  of_wellFormed rfl nofun

theorem resultPop : Statement .resultPop :=
  of_wellFormed rfl nofun

theorem resultFlush : Statement .resultFlush :=
  of_wellFormed rfl nofun

theorem resultWatermark : Statement .resultWatermark :=
  of_wellFormed rfl nofun

theorem windowAck : Statement .windowAck :=
  of_wellFormed rfl nofun

theorem eventAck : Statement .eventAck :=
  of_wellFormed rfl nofun

theorem softReset : Statement .softReset :=
  of_wellFormed rfl nofun

theorem badCommand (code : Byte) : Statement (.badCommand code) := by
  unfold Statement WellFormed
  simp

theorem eventEnableWrite (value : Byte) : Statement (.eventEnableWrite value) :=
  of_wellFormed rfl nofun

theorem registerWrite (value : Byte) : Statement (.registerWrite value) :=
  of_wellFormed rfl nofun

theorem intervalCounterLatch : Statement .intervalCounterLatch :=
  of_wellFormed rfl nofun

theorem resultSnapshotCopy : Statement .resultSnapshotCopy :=
  of_wellFormed rfl nofun

theorem frameBegin : Statement .frameBegin :=
  of_wellFormed rfl nofun

theorem header (value : Byte) : Statement (.header value) :=
  of_wellFormed rfl nofun

theorem frameEnd : Statement .frameEnd :=
  of_wellFormed rfl nofun

theorem deviceReset : Statement .deviceReset :=
  of_wellFormed rfl nofun

theorem trigEdge : Statement .trigEdge :=
  of_wellFormed rfl nofun

theorem intervalTick : Statement .intervalTick :=
  of_wellFormed rfl nofun

theorem scanTimerExpiry : Statement .scanTimerExpiry :=
  of_wellFormed rfl nofun

theorem upperCrossing (cell : CellId) : Statement (.upperCrossing cell) :=
  of_wellFormed rfl nofun

theorem lowerCrossing (cell : CellId) : Statement (.lowerCrossing cell) :=
  of_wellFormed rfl nofun

theorem restExpiry (cell : CellId) : Statement (.restExpiry cell) :=
  of_wellFormed rfl nofun

theorem gateExpiry (cell : CellId) : Statement (.gateExpiry cell) :=
  of_wellFormed rfl nofun

theorem prechargeExpiry (cell : CellId) : Statement (.prechargeExpiry cell) :=
  of_wellFormed rfl nofun

theorem stallExpiry (cell : CellId) : Statement (.stallExpiry cell) :=
  of_wellFormed rfl nofun

theorem periodOverflow (cell : CellId) : Statement (.periodOverflow cell) :=
  of_wellFormed rfl nofun

theorem dispatchAttempt (cell : CellId) : Statement (.dispatchAttempt cell) :=
  of_wellFormed rfl nofun

theorem commitApply : Statement .commitApply :=
  of_wellFormed rfl nofun

theorem timebaseTick (trig : Level) : Statement (.timebaseTick trig) :=
  of_wellFormed rfl nofun

theorem resetRelease : Statement .resetRelease :=
  of_wellFormed rfl nofun

end Sys2Proof.Laws.Describes
end

