-- ==== Sys2Proof/Laws/Reports.lean ====
section
/-!
SUPPORT. The rules of the commands read no serial port: a command at its location leaves what its
rule answers for the state as it stands, with the report (`takeCommand_reply`).
-/
namespace Sys2Proof.Machine

/-- The state with another serial port. -/
def State.withPort (p : Port) (s : State) : State := { s with port := p }

section
variable (s : State) (p : Port) (c : CellId)
@[simp] theorem State.withPort_cells : (s.withPort p).cells = s.cells := rfl
@[simp] theorem State.withPort_dispatch : (s.withPort p).dispatch = s.dispatch := rfl
@[simp] theorem State.withPort_profiles : (s.withPort p).profiles = s.profiles := rfl
@[simp] theorem State.withPort_channels : (s.withPort p).channels = s.channels := rfl
@[simp] theorem State.withPort_scan : (s.withPort p).scan = s.scan := rfl
@[simp] theorem State.withPort_requests : (s.withPort p).requests = s.requests := rfl
@[simp] theorem State.withPort_references : (s.withPort p).references = s.references := rfl
@[simp] theorem State.withPort_results : (s.withPort p).results = s.results := rfl
@[simp] theorem State.withPort_windows : (s.withPort p).windows = s.windows := rfl
@[simp] theorem State.withPort_timebase : (s.withPort p).timebase = s.timebase := rfl
@[simp] theorem State.withPort_timer : (s.withPort p).timer = s.timer := rfl
@[simp] theorem State.withPort_trig : (s.withPort p).trig = s.trig := rfl
@[simp] theorem State.withPort_events : (s.withPort p).events = s.events := rfl
@[simp] theorem State.withPort_command : (s.withPort p).command = s.command := rfl
@[simp] theorem State.withPort_freeIndex : (s.withPort p).freeIndex = s.freeIndex := rfl
@[simp] theorem State.withPort_wire : (s.withPort p).wire = s.wire := rfl
@[simp] theorem State.withPort_arg (i : Fin 8) : (s.withPort p).arg i = s.arg i := rfl
@[simp] theorem State.withPort_arg01 : (s.withPort p).arg01 = s.arg01 := rfl
@[simp] theorem State.withPort_arg12 : (s.withPort p).arg12 = s.arg12 := rfl
@[simp] theorem State.withPort_cell : (s.withPort p).cell c = s.cell c := rfl
@[simp] theorem State.withPort_job : (s.withPort p).job c = s.job c := rfl
@[simp] theorem State.withPort_channel (ch : Fin 10) :
    (s.withPort p).channel ch = s.channel ch := rfl
@[simp] theorem State.withPort_profile (q : Fin 4) : (s.withPort p).profile q = s.profile q := rfl
@[simp] theorem State.withPort_idleFree : (s.withPort p).idleFree c = s.idleFree c := rfl
@[simp] theorem State.withPort_validCount : (s.withPort p).validCount c = s.validCount c := rfl
@[simp] theorem State.withPort_holdsTag (t : Byte) :
    (s.withPort p).holdsTag t c = s.holdsTag t c := rfl
@[simp] theorem State.withPort_timebaseObstacle :
    (s.withPort p).timebaseObstacle = s.timebaseObstacle := rfl
@[simp] theorem State.withPort_dueList (n : BitVec 16) :
    (s.withPort p).dueList n = s.dueList n := rfl
@[simp] theorem State.withPort_raise (e : LatchedEvent) :
    (s.withPort p).raise e = (s.raise e).withPort p := rfl
@[simp] theorem State.withPort_setScan (x : Scan) :
    (s.withPort p).setScan x = (s.setScan x).withPort p := rfl
@[simp] theorem State.withPort_setCell (k : Cell) :
    (s.withPort p).setCell c k = (s.setCell c k).withPort p := rfl
@[simp] theorem State.withPort_setJob (j : Option Job) :
    (s.withPort p).setJob c j = (s.setJob c j).withPort p := rfl
@[simp] theorem State.withPort_setChannel (ch : Fin 10) (r : ChannelRecord) :
    (s.withPort p).setChannel ch r = (s.setChannel ch r).withPort p := rfl
@[simp] theorem State.withPort_setOpportunity (b : Bool) :
    (s.withPort p).setOpportunity c b = (s.setOpportunity c b).withPort p := rfl
@[simp] theorem State.withPort_invalidateCell :
    (s.withPort p).invalidateCell c = (s.invalidateCell c).withPort p := rfl
@[simp] theorem State.withPort_applyCommit :
    (s.withPort p).applyCommit = s.applyCommit.withPort p := rfl
@[simp] theorem State.withPort_removeDue :
    (s.withPort p).removeDue c = (s.removeDue c).withPort p := rfl

@[simp] theorem State.withPort_ite (b : Prop) [Decidable b] (x y : State) :
    (if b then x else y).withPort p = if b then x.withPort p else y.withPort p := by
  split <;> rfl

@[simp] theorem State.offer_withPort : (s.withPort p).offer c = (s.offer c).withPort p := by
  simp [State.offer]; rfl
@[simp] theorem State.offerBoth_withPort : (s.withPort p).offerBoth = s.offerBoth.withPort p := by
  simp [State.offerBoth]
@[simp] theorem State.release_withPort : (s.withPort p).release = s.release.withPort p := by
  have := State.offerBoth_withPort
    { s with results := { s.results with reserved := s.results.reserved - 1 } } p
  exact this
@[simp] theorem State.append_withPort (r : Record) :
    (s.withPort p).append r = (s.append r).withPort p := by
  unfold State.append; dsimp only; split <;> rfl
@[simp] theorem State.monitor_withPort (i : Fin 16) (r : Record) :
    (s.withPort p).monitor i r = ((s.monitor i r).1, (s.monitor i r).2.withPort p) := by
  unfold State.monitor
  simp only [State.withPort_scan, State.withPort_windows]
  cases h : (s.scan.active[i]).window <;> rfl
@[simp] theorem State.applyPending_withPort :
    (s.withPort p).applyPending = s.applyPending.withPort p := by
  simp [State.applyPending]; rfl
@[simp] theorem State.reachStopped_withPort :
    (s.withPort p).reachStopped = s.reachStopped.withPort p := by
  have := State.applyPending_withPort { s with
      scan := { s.scan with state := .stopped }
      timer := { s.timer with
        running := false
        period := s.timer.pendingPeriod.getD s.timer.period
        pendingPeriod := none } } p
  exact this
@[simp] theorem State.completionCheck_withPort :
    (s.withPort p).completionCheck = s.completionCheck.withPort p := by
  unfold State.completionCheck
  simp only [State.withPort_scan]
  cases h : s.scan.state <;> simp [h]
@[simp] theorem State.finishJob_withPort (j : Job) (r : Record) :
    (s.withPort p).finishJob c j r = (s.finishJob c j r).withPort p := by
  unfold State.finishJob State.endScanJob
  cases j.origin <;> simp
@[simp] theorem State.abortJob_withPort (j : Job) (st : RecordStatus) :
    (s.withPort p).abortJob c j st = (s.abortJob c j st).withPort p := by
  unfold State.abortJob
  by_cases h : j.slots = 2 <;> simp [h]
@[simp] theorem State.startCycle_withPort :
    (s.withPort p).startCycle = s.startCycle.withPort p := by
  simp [State.startCycle]
@[simp] theorem State.disableCell_withPort :
    (s.withPort p).disableCell c = (s.disableCell c).withPort p := by
  unfold State.disableCell
  simp
  cases h : s.job c <;> simp
@[simp] theorem State.cancelJob_withPort (tag : Byte) :
    (s.withPort p).cancelJob tag c = (s.cancelJob tag c).withPort p := by
  unfold State.cancelJob
  cases h : s.job c <;> simp [h]
@[simp] theorem State.cancelJobs_withPort (tag : Byte) :
    (s.withPort p).cancelJobs tag = (s.cancelJobs tag).withPort p := by
  unfold State.cancelJobs
  have e : { s.withPort p with freeIndex := s.freeIndex + 1 } =
      ({ s with freeIndex := s.freeIndex + 1 } : State).withPort p := rfl
  simp only [State.withPort_holdsTag, State.withPort_freeIndex, e, State.cancelJob_withPort,
    State.withPort_ite]

/-- A reply whose state has another serial port. -/
def Reply.withPort (r : Reply) : Reply := { r with state := r.state.withPort p }
@[simp] theorem Reply.withPort_done (a b c d : Byte) :
    (Reply.done a b c d s).withPort p = Reply.done a b c d (s.withPort p) := rfl
@[simp] theorem Reply.withPort_refuse (st : CommandStatus) (a b c d : Byte) :
    (Reply.refuse st a b c d s).withPort p = Reply.refuse st a b c d (s.withPort p) := rfl
@[simp] theorem Reply.withPort_ite (b : Prop) [Decidable b] (x y : Reply) :
    (if b then x else y).withPort p = if b then x.withPort p else y.withPort p := by
  split <;> rfl
end

theorem commandOf_withPort (code : Byte) (s : State) (p : Port) :
    commandOf code (s.withPort p) = (commandOf code s).withPort p := by
  revert s p
  apply commandOf_keeps (Q := fun rule => ∀ s p, rule (s.withPort p) = (rule s).withPort p) code
  case bad => intro b s p; rfl
  case cellDisable => intro s p; unfold cellDisable; simp only [State.withPort_arg]; split <;> simp
  case cellEnable => intro s p; unfold cellEnable; simp only [State.withPort_arg]; split <;> simp
  case channelSet =>
    intro s p; unfold channelSet State.setEnabled; simp only [State.withPort_arg]
    split <;> simp
  case channelClearFault =>
    intro s p; unfold channelClearFault State.clearFault; simp only [State.withPort_arg]
    split <;> simp
  case timebaseSet =>
    intro s p; unfold timebaseSet; simp only [State.withPort_arg]
    split
    · rfl
    · simp only [State.withPort_arg12, State.withPort_timebaseObstacle, Reply.withPort_ite]; rfl
  case scanConfig =>
    intro s p; unfold scanConfig; simp only [State.withPort_arg]
    split
    · simp; rfl
    · rfl
  case faultThreshold => intro s p; unfold faultThreshold; simp; rfl
  case scanStart => intro s p; unfold scanStart; simp; rfl
  case scanOnce => intro s p; unfold scanOnce; simp
  case scanStop =>
    intro s p
    have : (s.withPort p).stopScan = s.stopScan.withPort p := by
      unfold State.stopScan; simp only [State.withPort_scan]
      cases h : s.scan.state <;> simp
      by_cases h0 : s.scan.jobsInFlight = 0 <;> simp [h0] <;> rfl
    unfold scanStop; rw [this]; rfl
  case entryWrite =>
    intro s p; unfold entryWrite; simp only [State.withPort_arg]; split <;> simp <;> rfl
  case entryRead =>
    intro s p; unfold entryRead; simp only [State.withPort_arg]; split <;> simp <;> rfl
  case tableRevert => intro s p; unfold tableRevert; simp; rfl
  case tableCommit =>
    intro s p; unfold tableCommit; simp only [State.withPort_scan]
    simp only [Reply.withPort_ite]
    congr 1
    split
    · rfl
    · simp only [Reply.withPort_ite]; rfl
  case tableAbandon => intro s p; unfold tableAbandon; simp; rfl
  case profileWrite =>
    intro s p; unfold profileWrite; simp only [State.withPort_arg, State.withPort_profiles]
    (repeat' split) <;> rfl
  case profileRead =>
    intro s p; unfold profileRead; simp only [State.withPort_arg]; split <;> rfl
  case requestSubmit =>
    intro s p; unfold requestSubmit
    have : ∀ r, (s.withPort p).submit r = (s.submit r).withPort p := fun r =>
      State.offer_withPort { s with requests :=
        { s.requests with queue := s.requests.queue ++ [r] } } p _
    simp only [State.withPort_requests]
    split
    · simp [*]
    · simp [*]
    · simp [*]
    · rename_i h1 h2 h3
      simp only [h1, h2, h3, this, Reply.withPort_ite]; rfl
  case requestCancel =>
    intro s p
    exact congrArg (fun t => Reply.done _ _ _ 0 t) (State.cancelJobs_withPort { s with
      requests := { s.requests with
        queue := s.requests.queue.filter fun r => decide (r.tag ≠ s.arg 0) } } p _)
  case resultPop =>
    intro s p; unfold resultPop; simp only [State.withPort_results]; split
    · rfl
    · exact congrArg (fun t => Reply.done _ _ _ _ t) (State.offerBoth_withPort { s with
        results := { s.results with records := _, current := false } } p)
  case resultFlush =>
    intro s p; unfold resultFlush; simp only [State.withPort_results]
    by_cases h : s.results.records = [] <;> simp only [h, if_true, if_false]
    · rfl
    · exact congrArg (fun t => Reply.done _ _ _ _ t) (State.offerBoth_withPort { s with
        results := { s.results with records := [], current := false } } p)
  case resultWatermark => intro s p; unfold resultWatermark; simp; rfl
  all_goals intro s p; rfl

/-- A command taken at its location: what its rule leaves, with the rule's report. -/
theorem State.takeCommand_reply {s t : State} {rule : State → Reply} {code : Byte}
    {st : CommandStatus} {b0 b1 b2 b3 : Byte} (h : s.atCommand = true)
    (free : ∀ s p, rule (s.withPort p) = (rule s).withPort p)
    (hr : rule s = ⟨st, #v[b0, b1, b2, b3], t⟩) :
    s.takeCommand code rule = t.reported code st b0 b1 b2 b3 := by
  have ht : t.port = s.port := by
    have := congrArg (fun r => r.state.port) (free s s.port)
    have hs : s.withPort s.port = s := rfl
    simpa [hs, hr, Reply.withPort, State.withPort] using this
  have e := free s (s.port.complete code)
  rw [hr] at e
  rw [State.takeCommand_at h]
  have e' : rule { s with port := s.port.complete code } =
      ⟨st, #v[b0, b1, b2, b3], t.withPort (s.port.complete code)⟩ := e
  rw [e']
  simp [State.withPort, State.reported, ht]

end Sys2Proof.Machine
end

