-- ==== Sys2Proof/Tests/Slice0.lean ====
section
/-!
SUPPORT. Tests on small states, most of them the spec's worked examples, and for every obligation with
hypotheses a witness: a concrete state and operands that meet them, clause by clause, at the ends of
the ranges where a clause has a range.
-/
namespace Sys2Proof.Tests
open Sys2Proof Sys2Proof.Machine

/-! ### States the tests start from -/

/-- A WRITE frame at the command location, with the first four argument bytes. -/
def ready (s : State) (a0 a1 a2 a3 : Byte := 0) : State :=
  { s with
    port := { State.reset.port with frame := .write, pointer := 25, csLow := true }
    command := { s.command with args := #v[a0, a1, a2, a3, 0, 0, 0, 0] } }

/-- A frame whose address pointer stands at an offset. -/
def framed (s : State) (f : FrameState) (p : BitVec 7) : State :=
  { s with port := { State.reset.port with frame := f, pointer := p, csLow := true } }

/-- Both cells IDLE. -/
def idle : State :=
  { State.reset with cells :=
    ⟨{ Cell.reset .low with state := .idle }, { Cell.reset .low with state := .idle }⟩ }

/-- An order on channel 2. -/
def order (m : Method) : Order :=
  { channel := 2, method := m, settle := 2, cycles := 4, gate := 10, precharge := 1000,
    stallLimit := 16, m := .m2 }

/-- A cell in the middle of an order. -/
def midway (m : Method) (st : CellState) (p : PhaseTimer) (n : Nat) : Cell :=
  { state := st, order := some (order m), phaseTimer := p, stallTimer := some 3, crossings := n,
    settleLeft := 0, accumulator := 1200, samplesDone := 1, level := .high,
    referenceTaken := true }

/-- Cell A set to a given cell, the rest after reset. -/
def withA (k : Cell) : State := State.reset.setCell .a k

/-- A job of a given origin. -/
def job (o : Origin) (p : Phase) (slots : Nat) : Job :=
  { origin := o, channel := 1, profile := 0, copy := Profile.default, superseded := false, m := .m1,
    ratio := true, force := false, phase := p, slots := slots, pairing := some 4,
    refreshed := true }

/-- A record with sequence number 6. -/
def record : Record :=
  { (job (.request 5) .main 1).endRecord .cancelled 0 with sequence := 6 }

/-- An entry on a channel, with a window. -/
def entry (ch every phase : Byte) : ScanEntry :=
  { enabled := true, ratio := false, channel := ch, profile := 0, m := 1, every := every,
    phase := phase, window := some { low := 10, high := 20, hysteresis := 1, qualify := 2 } }

/-- The part in the middle of a cycle: cell A converts for a scan job, cell B rests between the
orders of a request job. -/
def busy : State :=
  { State.reset with
    cells := ⟨{ midway .period .measuring (.up 5) 1 with stallTimer := some 3 },
      { Cell.reset .low with state := .resting, phaseTimer := .down 3 }⟩
    dispatch := ⟨⟨some (job (.scan 0 3) .main 1), false⟩,
      ⟨some { job (.request 9) .main 1 with channel := 4 }, false⟩⟩
    scan := { Scan.reset with
      state := .cycle, cycle := 3, due := [1], jobsInFlight := 1
      active := (Scan.reset.active.set 0 (entry 1 1 0)).set 1 (entry 0 1 0) }
    timer := { ScanTimer.reset with running := true, remaining := 5 }
    results := { ResultQueue.reset with records := [record], reserved := 2, nextSequence := 7 }
    windows := {
      records := (WindowMonitor.reset.records.set 0 ⟨some .inside, some .above, 1⟩).set 1
        ⟨some .below, none, 0⟩
      changeSet := 2 }
    port := { State.reset.port with frame := .write, csLow := true } }

/-- A scan cycle with a commit pending, its timer running. -/
def cycling : State :=
  { idle with
    scan := { Scan.reset with state := .waiting, commitPending := true }
    timer := { ScanTimer.reset with running := true } }

/-! ### Well-formed commands -/

theorem test_wellFormed_refuses_summary_code : WellFormed (.badCommand 0x5A) = false := by decide
theorem test_wellFormed_badCommand : WellFormed (.badCommand 0x5B) = true := by decide

/-! ### The spec's worked examples -/

/-- 1.13: the fourth crossing of the second sample, 1204 ticks, ends the order with 1202. -/
theorem test_period_mean : ((midway .period .measuring (.up 1204) 3).lowerCrossing 1000).2 =
    some (.ok 2 1202) := by decide

/-- 1.13, the sensor open: the stall expiry at 1024 ticks. -/
theorem test_stall_outcome :
    let k := { midway .period .measuring (.up 1326) 1 with stallTimer := some 1024, level := .low }
    k.stallDue = true ∧ k.stallOutcome = .stall 1 .low := by decide

/-- 1.14: the release at LOW ends the order UNDERRANGE with the samples completed. -/
theorem test_slope_underrange :
    let k := { midway .slope .precharging (.down 0) 0 with level := .low, samplesDone := 2 }
    k.prechargeDue = true ∧ k.releaseCapacitor.2 = some (.underrange 2) := by decide

/-- 2.8: G = 0 fails field 4 even under SLOPE. -/
theorem test_profile_fault :
    profileFault #v[2, 2, 16, 0, 0, 0, 0xD0, 7, 0, 4, 0xE8, 3, 8, 0, 0] = some 4 := by decide

/-- 2.8: with G = 10 it passes, P is 2000 and the generation 1. -/
theorem test_profile_taken :
    let img : Vector Byte 15 := #v[2, 2, 16, 0, 10, 0, 0xD0, 7, 0, 4, 0xE8, 3, 8, 0, 0]
    profileFault img = none ∧
      profileOfImage img 1 = { Profile.default with
        method := .slope, precharge := 2000, generation := 1 } := by decide

/-- The default image is the default profile (R27, R203). -/
theorem test_profile_default_image :
    imageOfProfile Profile.default = ProfileTable.defaultImage := by decide

/-- 3.7: the third stall in a row makes a channel FAULTED, with threshold 3. -/
theorem test_stalls_fault :
    ({ ChannelRecord.reset with health := .suspect, stalls := 2 }).stalled 3 .low =
      { enabled := true, health := .faulted, stalls := 3, lastLevel := some .low } := by decide

/-- 3.7: an OK outcome restores a FAULTED channel only when forced. -/
theorem test_forced_recovers :
    let r := { ChannelRecord.reset with health := .faulted, stalls := 4 }
    (r.passed true).health = .good ∧ (r.passed false).health = .faulted := by decide

/-- 4.7: the table of the example. -/
def mixedTable : Vector ScanEntry 16 :=
  (((((Scan.reset.active.set 0 (entry 0 1 0)).set 1 (entry 4 2 0)).set 2 (entry 8 4 1)).set 3
    (entry 5 2 1)).set 5 (entry 2 3 0)).set 7 (entry 6 1 0)

/-- 4.7: channel 6 is FAULTED. -/
def mixed : State :=
  { idle.setChannel 6 { ChannelRecord.reset with health := .faulted, stalls := 3 } with
    scan := { Scan.reset with active := mixedTable } }

/-- 4.7: the due lists of cycles 1, 2 and 4. -/
theorem test_due_lists :
    mixed.dueList 1 = [0, 2, 3] ∧ mixed.dueList 2 = [0, 1] ∧ mixed.dueList 4 = [0, 1] := by decide

/-- 4.8: SCAN_STOP with two entries due and two jobs in flight reports 3, 2, 2, 0. -/
theorem test_scanStop_report :
    let s := { busy with scan := { busy.scan with due := [9, 12], jobsInFlight := 2 } }
    (scanStop s).result = #v[3, 2, 2, 0] ∧ (scanStop s).state.scan.due = [] := by decide

/-- 5.8: the fourth request reports four queued, its tag, and two for its cell. -/
theorem test_submit_report :
    let r := fun (t : Byte) (ch : Fin 10) =>
      ({ tag := t, channel := ch, profile := 0, m := .m1, ratio := false, force := false } : Request)
    let s := { State.reset with requests := { queue := [r 7 1, r 9 5, r 7 2], image := #v[3, 6, 0, 1, 0] } }
    (requestSubmit s).status = .done ∧ (requestSubmit s).result = #v[4, 3, 2, 0] := by decide

/-- 7.7 and 7.8: the ratios worked out there. -/
theorem test_ratios : ratioQuotient .period 5760 4800 = 78643 ∧
    ratioQuotient .period 3600 4800 = 49152 ∧ ratioQuotient .slope 4000 5000 = 52428 := by decide

/-- 7.7: a record 1004 interval ticks old is past a lifetime of 1000. -/
theorem test_freshness_ages :
    let s := fun n => { (State.reset.setReference .a 0 ⟨true, 4800, 20006, 3, 0⟩) with
      timebase := { Timebase.reset with counter := n } }
    (s 21005).fresh .a 0 = true ∧ (s 21010).fresh .a 0 = false := by decide

/-- 8.7: RESULT_WATERMARK 24 with 32 before and one record here. -/
theorem test_watermark_report :
    let s := ready { busy with results := { busy.results with watermark := 32 } } 24
    (resultWatermark s).result = #v[24, 32, 1, 0] := by decide

/-- 9.8: classes from INSIDE and from ABOVE. -/
theorem test_window_classes :
    classify (some .inside) 60000 70000 2000 71000 = .inside ∧
    classify (some .inside) 60000 70000 2000 72500 = .above ∧
    classify (some .above) 60000 70000 2000 69000 = .above ∧
    classify (some .above) 60000 70000 2000 67000 = .inside ∧
    classify (some .above) 60000 70000 2000 55000 = .below := by decide

/-- 9.8: the class that changes restarts the run. -/
theorem test_window_run_restarts :
    (WindowRecord.judge { low := 60000, high := 70000, hysteresis := 2000, qualify := 3 }
      (some 55000) ⟨some .above, some .inside, 1⟩) = (⟨some .above, some .below, 1⟩, none) := by
  decide

/-- 12.6: the bytes of the record read there. -/
theorem test_record_bytes :
    ({ status := .ok, kind := .scan, sourceId := 0, cycle := some 312, channel := 1, profile := 0,
       samples := 4, raw := some 5760
       ratio := some { reference := 4800, ratio := 78643, saturated := false }, refreshed := true
       transition := none, stallLevel := none, sequence := 1001, timestamp := 20010 } :
      Record).bytes =
      #v[1, 1, 0, 1, 4, 47, 0, 233, 3, 56, 1, 128, 22, 0, 192, 18, 0, 51, 51, 1, 42, 78, 0, 0] := by
  decide

/-- The port after the header 0xD0, at the rising edge that completed it. -/
def headed (s : State) : State :=
  { s with port := { State.reset.port with
      frame := .read, direction := .read, pointer := 80, shift := 0xD0, csLow := true
      sckHigh := true } }

/-- R187: the header 0xD0 begins a READ frame at offset 80. -/
theorem test_header_read :
    ((framed State.reset .header 0).takeHeader 0xD0).port = (headed State.reset).port := by
  decide

/-- R187: the same header bit by bit; the eighth rising edge completes it. -/
theorem test_header_last_bit :
    let s := framed State.reset .header 0
    step { s with
        port := { s.port with bitCount := 7, shift := 0x68 }, wire := [.sckRises .low] } =
      .next (headed State.reset) := rfl

/-- 12.6: the falling edge after the header loads offset 80, and the status byte's most significant
bit is on SDO. -/
theorem test_header_then_load :
    let t := (headed busy).sckFall
    t.results.snapshot = record.bytes ∧ t.results.current = true ∧
      t.port.shift = record.status.code ∧ t.sdo = .low := by decide

/-- R190: a READ frame at offset 80 that ends just after its header has copied the snapshot. -/
theorem test_frame_end_copies :
    ∃ t, exec .frameEnd (headed busy) = .next t ∧ t.results.snapshot = record.bytes ∧
      t.results.current = true ∧ t.port.frame = .noFrame ∧ t.port.bitCount = 0 :=
  ⟨_, rfl, by decide⟩

/-- R190: a byte that is not complete is discarded, and the pointer has not moved. -/
theorem test_partial_byte_discarded :
    let s := framed State.reset .write 17
    ((s.sckRise .high).sckFall.endFrame).command.args = State.reset.command.args ∧
      (s.sckRise .high).port.pointer = 17 ∧ (s.sckRise .high).port.bitCount = 1 := by decide

/-- 11.7: IRQ# follows SCAN_DONE when it is enabled, and only then. -/
theorem test_irq :
    let s := State.reset.raise .scanDone
    s.irqLow = false ∧ ({ s with events := { s.events with enable := 0x53 } }).irqLow = true := by
  decide

/-- R83, R203: the reset entry image is a disabled entry of channel 0. -/
theorem test_default_entry_image : entryOfImage Scan.defaultImage = ScanEntry.default := by decide

/-! ### Witnesses: the machine as a whole -/

/-- The prescaler clauses with nothing due; `witness_IdleStepCountsClkin_due` has arrivals due. -/
theorem witness_IdleStepCountsClkin :
    let held := { State.reset with resetHeld := true }
    let slow := { State.reset with timebase := { Timebase.reset with prescale := .p2 } }
    (held.pending = [] ∧ held.resetHeld = true) ∧
    (slow.pending = [] ∧ slow.resetHeld = false ∧ slow.anyDue = false ∧
      slow.timebase.prescalerPhase + 1 < slow.timebase.prescale.toNat) ∧
    (State.reset.pending = [] ∧ State.reset.resetHeld = false ∧
      State.reset.timebase.prescale.toNat ≤ State.reset.timebase.prescalerPhase + 1) ∧
    (State.reset.wire = [] ∧ ∀ e ∈ [WireEvent.sckRises .high, .sckFalls, .row .scanStop, .period],
      ({ State.reset with wire := [e, .period] }).pending = [] ∧
        ({ State.reset with wire := [e, .period] }).wire = e :: [.period]) := by decide

/-- An interval tick left due under prescale 2. -/
def slowDue : State :=
  { idle with timebase := { Timebase.reset with prescale := .p2, intervalPhase := 1000 } }

theorem witness_IdleStepCountsClkin_due :
    slowDue.pending = [] ∧ slowDue.wire = [] ∧ slowDue.resetHeld = false ∧
      slowDue.timebase.prescalerPhase + 1 < slowDue.timebase.prescale.toNat ∧
      slowDue.anyDue = true ∧ RangesHold slowDue :=
  ⟨rfl, rfl, rfl, by decide, by decide, by
    constructor <;> first | decide | (rintro (_ | _) <;> decide)⟩

theorem witness_StepKeepsStages : StagesHold busy ∧ ∃ t, step busy = .next t :=
  ⟨⟨by decide, by decide⟩, _, rfl⟩

theorem witness_StepKeepsSlotsAccounted :
    StagesHold busy ∧ SlotsAccounted busy ∧ ∃ t, step busy = .next t :=
  ⟨⟨by decide, by decide⟩, ⟨by decide, by decide, by decide, by decide⟩, _, rfl⟩

theorem witness_StepKeepsSequences : SequencesFollow busy ∧ ∃ t, step busy = .next t :=
  ⟨by unfold SequencesFollow; decide, _, rfl⟩

theorem busy_scanConsistent : ScanConsistent busy := by constructor <;> decide

theorem witness_StepKeepsScanConsistent : ScanConsistent busy ∧ ∃ t, step busy = .next t :=
  ⟨busy_scanConsistent, _, rfl⟩

theorem busy_rangesHold : RangesHold busy := by
  constructor <;> first | decide | (rintro (_ | _) <;> decide)

theorem witness_StepKeepsRanges : RangesHold busy ∧ ∃ t, step busy = .next t :=
  ⟨busy_rangesHold, _, rfl⟩

theorem witness_StepKeepsReadingsPositive : ReadingsPositive busy ∧ ∃ t, step busy = .next t :=
  ⟨⟨by decide, by rintro (_ | _) <;> decide, by rintro (_ | _) <;> decide,
    by rintro (_ | _) <;> decide⟩, _, rfl⟩

/-- The window state records of `busy` and their entries' windows. -/
theorem busy_window (i : Fin 16) :
    (busy.windows.records[i], (busy.scan.active[i]).window) =
      if i = 0 then (⟨some .inside, some .above, 1⟩, (entry 1 1 0).window)
      else if i = 1 then (⟨some .below, none, 0⟩, (entry 0 1 0).window)
      else (WindowRecord.unknown, none) := by
  revert i; decide

theorem witness_StepKeepsWindowsFit : WindowsFit busy ∧ ∃ t, step busy = .next t := by
  refine ⟨⟨fun i => ?_, by decide⟩, _, rfl⟩
  have h := busy_window i
  simp only [Prod.ext_iff] at h
  rw [h.1, h.2]
  by_cases h0 : i = 0
  · simp only [h0, if_true]; exact ⟨by decide, by decide, fun _ => ⟨_, rfl, by decide⟩, by decide⟩
  · by_cases h1 : i = 1
    · simp only [h1, if_true]; exact ⟨by decide, by decide, by decide, by decide⟩
    · simp only [h0, h1, if_false]; exact ⟨by decide, by decide, by decide, by decide⟩

theorem witness_StepKeepsCellsTimed : CellsTimed busy ∧ ∃ t, step busy = .next t :=
  ⟨⟨by rintro (_ | _) <;> decide, by rintro (_ | _) <;> decide⟩, _, rfl⟩

theorem witness_StepKeepsPortConsistent : PortConsistent busy ∧ ∃ t, step busy = .next t :=
  ⟨by constructor <;> decide, _, rfl⟩

/-! ### Witnesses: what only certain commands change -/

theorem witness_TablesChangeOnlyByCommit :
    (.scanStop : Instr) ≠ .deviceReset ∧ cycling.scan.commitPending = true ∧
      ∃ t, exec .scanStop (ready cycling) = .next t ∧ t.raised .commitApplied = true :=
  ⟨by decide, by decide, _, rfl, by decide⟩

/-- SCAN_ONCE, a timer expiry and an edge each start a cycle. -/
theorem witness_CycleNumberMovesAtCycleStarts :
    (∃ t, exec .scanOnce (ready mixed) = .next t ∧ t.scan.cycle = 1) ∧
    (∃ t, exec .scanTimerExpiry cycling = .next t ∧ t.scan.cycle = 1) ∧
    (∃ t, exec .trigEdge { cycling with
        trig := { Trig.reset .low with confirming := 2, firstSample := false }
        scan := { cycling.scan with source := .pin } } = .next t ∧ t.scan.cycle = 1) :=
  ⟨⟨_, rfl, by decide⟩, ⟨_, rfl, by decide⟩, _, rfl, by decide⟩

/-- Cell A IDLE with an opportunity and a request queued. -/
def asking (ratio force : Bool) (ch : ChannelRecord) : State :=
  { (idle.setOpportunity .a true).setChannel 1 ch with requests :=
    { RequestBlock.reset with queue := [⟨5, 1, 0, .m1, ratio, force⟩] } }

/-- Cell A at the end of its rest, owned by a job between its orders. -/
def between (ch : ChannelRecord) : State :=
  (((withA { Cell.reset .low with state := .resting, phaseTimer := .down 0 }).setJob .a
    (some (job (.scan 0 3) .main 1))).setChannel 1 ch).setScan
      { Scan.reset with state := .stopping, jobsInFlight := 1 }

/-- A FAULTED channel. -/
def broken : ChannelRecord := { ChannelRecord.reset with health := .faulted, stalls := 3 }

/-- A disabled channel. -/
def off : ChannelRecord := { ChannelRecord.reset with enabled := false }

/-- A forced request on a FAULTED channel, a held request, and the end of a rest between orders. -/
theorem witness_ConversionsStartOnUsableChannels :
    (((asking false true broken).cell .a).order = none ∧
      ∃ t, exec (.dispatchAttempt .a) (asking false true broken) = .next t ∧
        (t.cell .a).order = some (orderOf 1 Profile.default .m1)) ∧
    (((asking true false .reset).cell .a).order = none ∧
      ∃ t, exec (.dispatchAttempt .a) (asking true false .reset) = .next t ∧
        (t.cell .a).order = some (orderOf 8 Profile.default .m1)) ∧
    (((between .reset).cell .a).order = none ∧
      ∃ t, exec (.restExpiry .a) (between .reset) = .next t ∧
        (t.cell .a).order = some (orderOf 1 Profile.default .m1)) :=
  ⟨⟨by decide, _, rfl, by decide⟩, ⟨by decide, _, rfl, by decide⟩, by decide, _, rfl, by decide⟩

theorem witness_OtherCellUntouched :
    Instr.upperCrossing .a ∈ [Instr.upperCrossing .a, .lowerCrossing .a, .restExpiry .a,
      .gateExpiry .a, .prechargeExpiry .a, .stallExpiry .a, .periodOverflow .a,
      .dispatchAttempt .a] ∧ ∃ t, exec (.upperCrossing .a) busy = .next t :=
  ⟨by decide, _, rfl⟩

/-! ### Witnesses: cells and channels -/

theorem witness_CellEnableRestsADownCell :
    ((ready State.reset 0).atCommand = true ∧ (ready State.reset 0).arg 0 = cellNumber .a ∧
      ((ready State.reset 0).cell .a).state = .down) ∧
    ((ready idle 1).atCommand = true ∧ (ready idle 1).arg 0 = cellNumber .b ∧
      ((ready idle 1).cell .b).state ≠ .down) ∧
    ((ready idle 2).atCommand = true ∧ 1 < ((ready idle 2).arg 0).toNat) := by decide

/-- Cell A converts its reference channel for a request job that holds two slots. -/
def heldJob (ch : Fin 10) (ph : Phase) (slots : Nat) : State :=
  { (withA (midway .period .measuring (.up 5) 1)).setJob .a
      (some { job (.request 9) ph slots with channel := ch }) with
    results := { ResultQueue.reset with reserved := slots } }

/-- A cell without a job, with a scan job of one slot, and with a request job of two. -/
theorem witness_CellDisableEndsEverythingOfTheCell :
    ((ready idle 1).atCommand = true ∧ (ready idle 1).arg 0 = cellNumber .b ∧
      (ready idle 1).job .b = none) ∧
    ((ready busy 0).atCommand = true ∧ (ready busy 0).arg 0 = cellNumber .a ∧
      (ready busy 0).job .a = some (job (.scan 0 3) .main 1)) ∧
    ((ready (heldJob 1 .reference 2) 0).atCommand = true ∧
      (ready (heldJob 1 .reference 2) 0).arg 0 = cellNumber .a ∧
      (ready (heldJob 1 .reference 2) 0).job .a = some (job (.request 9) .reference 2) ∧
      (job (.request 9) .reference 2).origin = .request 9) ∧
    (∀ b ∈ [2, 255], (ready idle b).atCommand = true ∧ 1 < ((ready idle b).arg 0).toNat) := by
  decide

theorem witness_ChannelCommandsHandOn :
    let s := fun (ch : Fin 10) (r : ChannelRecord) (e : Bool) =>
      ready (State.reset.setChannel ch r) (BitVec.ofNat 8 ch.val) (flagByte e)
    let meets := fun (ch : Fin 10) (r : ChannelRecord) (e : Bool) =>
      decide ((s ch r e).atCommand = true ∧ (s ch r e).arg 0 = BitVec.ofNat 8 ch.val ∧
        (s ch r e).arg 1 = flagByte e ∧ (s ch r e).channel ch = r)
    (meets 8 .reset false && meets 7 .reset false && meets 0 off true &&
      meets 9 { broken with enabled := false } true && meets 9 .reset true) = true ∧
    ((ready State.reset 10).atCommand = true ∧ 9 < ((ready State.reset 10).arg 0).toNat) ∧
    (1 < ((ready State.reset 9 2).arg 1).toNat) := by decide

theorem witness_FaultThresholdIsTaken :
    ((ready State.reset 1).atCommand = true ∧ 1 ≤ ((ready State.reset 1).arg 0).toNat ∧
      ((ready State.reset 7).arg 0).toNat ≤ 7 ∧ 1 ≤ ((ready State.reset 7).arg 0).toNat) ∧
    ((ready State.reset 0).arg 0).toNat = 0 ∧ 7 < ((ready State.reset 8).arg 0).toNat := by decide

/-! ### Witnesses: timebase and scan commands -/

/-- Prescale 3, divider 99, then each obstacle, then none. -/
theorem witness_TimebaseSetRestartsOrIsRefused :
    let waiting := idle.setScan { Scan.reset with state := .waiting }
    let resting := withA (Cell.reset .low).rest
    let both := resting.setScan { Scan.reset with state := .waiting }
    ((ready idle 3).atCommand = true ∧ (ready idle 3).arg 0 ∉ [1, 2, 4, 8]) ∧
    ((ready idle 8 99).arg 0 ∈ [1, 2, 4, 8] ∧ (ready idle 8 99).arg12.toNat < 100) ∧
    (100 ≤ (ready resting 1 100).arg12.toNat ∧ (resting.cell .a).state ≠ .down ∧
      (resting.cell .a).state ≠ .idle ∧ resting.scan.state = .stopped) ∧
    (waiting.scan.state ≠ .stopped ∧ (waiting.cell .a).state = .idle ∧
      (waiting.cell .b).state = .idle) ∧
    ((both.cell .a).state = .resting ∧ both.scan.state ≠ .stopped) ∧
    ((ready idle 8 100).arg 0 ∈ [1, 2, 4, 8] ∧ 100 ≤ (ready idle 8 100).arg12.toNat ∧
      idle.scan.state = .stopped ∧ Prescale.p8.toNat = ((ready idle 8 100).arg 0).toNat) := by
  decide

theorem witness_ScanConfigHandsThePeriod :
    ((ready idle).atCommand = true ∧ (ready idle).arg01 = 0) ∧
    (1 < ((ready idle 1 0 2 0).arg 2).toNat ∧ 1 < ((ready idle 1 0 0 2).arg 3).toNat) ∧
    ((ready idle 1 0 1 1).arg01 ≠ 0 ∧ (ready idle 1 0 1 1).arg 2 = Source.pin.code ∧
      (ready idle 1 0 1 1).arg 3 = Edge.falling.code ∧ idle.scan.state = .stopped) ∧
    (busy.scan.state ≠ .stopped ∧ Source.timer = busy.scan.source ∧
      Edge.rising = busy.scan.edge ∧ Source.pin ≠ busy.scan.source) := by decide

theorem witness_ScanStartWaitsAndScanStopStops :
    let pin := idle.setScan { Scan.reset with source := .pin }
    let empty := cycling.setScan { Scan.reset with state := .cycle }
    ((ready idle).atCommand = true ∧ idle.scan.state = .stopped ∧ idle.scan.source = .timer) ∧
    ((ready pin).atCommand = true ∧ pin.scan.state = .stopped ∧ pin.scan.source = .pin) ∧
    ((ready cycling).atCommand = true ∧ cycling.scan.state = .waiting) ∧
    ((ready empty).atCommand = true ∧ empty.scan.state = .cycle ∧ empty.scan.jobsInFlight = 0) ∧
    ((ready busy).atCommand = true ∧ busy.scan.state = .cycle ∧ busy.scan.jobsInFlight ≠ 0) ∧
    (between .reset).scan.state = .stopping := by decide

/-- With entries due, with none due, and in a cycle. -/
theorem witness_ScanOnceStartsOneCycle :
    (ScanConsistent (ready mixed) ∧ (ready mixed).atCommand = true ∧
      mixed.scan.state = .stopped ∧ mixed.dueList (mixed.scan.cycle + 1) ≠ []) ∧
    (ScanConsistent (ready idle) ∧ (ready idle).atCommand = true ∧ idle.scan.state = .stopped ∧
      idle.dueList (idle.scan.cycle + 1) = []) ∧
    (ScanConsistent (ready busy) ∧ (ready busy).atCommand = true ∧
      busy.scan.state ≠ .stopped) :=
  ⟨⟨by constructor <;> decide, by decide, by decide, by decide⟩,
    ⟨by constructor <;> decide, by decide, by decide, by decide⟩,
    by constructor <;> decide, by decide, by decide⟩

/-! ### Witnesses: scan table and profile commands -/

theorem witness_EntryCommandsCopyEntries :
    ((ready idle 15 0).atCommand = true ∧
      (ready idle 15 0).arg 0 = BitVec.ofNat 8 (15 : Fin 16).val ∧
      idle.scan.commitPending = false ∧ (ready idle 15 0).arg 1 = 0) ∧
    ((ready cycling 0 1).arg 0 = BitVec.ofNat 8 (0 : Fin 16).val ∧
      cycling.scan.commitPending = true ∧ (ready cycling 0 1).arg 1 = 1) ∧
    15 < ((ready idle 16).arg 0).toNat ∧ 1 < ((ready idle 0 2).arg 1).toNat := by decide

theorem witness_TableRevertCopiesActive :
    ((ready idle).atCommand = true ∧ (ready idle).scan.commitPending = false) ∧
    ((ready cycling).atCommand = true ∧ (ready cycling).scan.commitPending = true) := by decide

/-- A staging table whose entry 3 is given, the others as after reset. -/
def staged (e : ScanEntry) (st : ScanState) (pending : Bool) : State :=
  ready (idle.setScan { Scan.reset with
    staging := Scan.reset.staging.set 3 e, state := st, commitPending := pending })

theorem witness_TableCommitChecksThenApplies :
    ((staged (entry 9 1 0) .stopped true).scan.commitPending = true ∧
      (staged (entry 9 1 0) .stopped true).scan.state = .stopped) ∧
    ((staged (entry 10 1 0) .stopped false).atCommand = true ∧
      (∀ k < (3 : Fin 16),
        ((staged (entry 10 1 0) .stopped false).scan.staging[k]).failedCheck = none) ∧
      ((staged (entry 10 1 0) .stopped false).scan.staging[(3 : Fin 16)]).failedCheck = some 1) ∧
    ((staged (entry 9 1 0) .stopped false).atCommand = true ∧
      (∀ i : Fin 16,
        ((staged (entry 9 1 0) .stopped false).scan.staging[i]).failedCheck = none)) ∧
    ((staged (entry 9 1 0) .waiting false).atCommand = true ∧
      (∀ i : Fin 16,
        ((staged (entry 9 1 0) .waiting false).scan.staging[i]).failedCheck = none) ∧
      (staged (entry 9 1 0) .waiting false).scan.state ≠ .stopped) := by decide

/-- Each check failed by the value beside its range, and the ranges' ends passed. -/
theorem witness_EntryChecksAreTheRanges :
    let w := fun low high q : Nat =>
      some (⟨BitVec.ofNat 24 low, BitVec.ofNat 24 high, 0, BitVec.ofNat 8 q⟩ : Window)
    (entry 10 1 0).failedCheck = some 1 ∧
    ({ entry 9 1 0 with profile := 4 }).failedCheck = some 2 ∧
    ({ entry 9 1 0 with m := 3 }).failedCheck = some 3 ∧
    (entry 9 0 0).failedCheck = some 4 ∧ (entry 9 1 1).failedCheck = some 5 ∧
    ({ entry 9 1 0 with window := w 0 1 0 }).failedCheck = some 6 ∧
    ({ entry 9 1 0 with window := w 0 1 16 }).failedCheck = some 6 ∧
    ({ entry 9 1 0 with window := w 5 5 1 }).failedCheck = some 7 ∧
    ({ entry 9 255 254 with profile := 3, m := 16, window := w 0 1 15 }).failedCheck = none := by
  decide

theorem witness_TableAbandonClearsThePendingCommit :
    ((ready cycling).atCommand = true ∧ (ready cycling).scan.commitPending = true) ∧
    ((ready idle).atCommand = true ∧ (ready idle).scan.commitPending = false) := by decide

/-- A number past the last, an image that fails its last field, and the image after reset. -/
theorem witness_ProfileCommandsTakeAndShow :
    let img := ProfileTable.defaultImage
    let bad := img.set 13 2
    ((ready idle 4).atCommand = true ∧ 3 < ((ready idle 4).arg 0).toNat) ∧
    (ready idle 3).arg 0 = BitVec.ofNat 8 (3 : Fin 4).val ∧
    ((∀ k ∈ [1, 2, 3, 4, 5, 6, 7, 8], profileFieldInRange bad k = true) ∧
      profileFieldInRange bad 9 = false) ∧
    (∀ k ∈ [1, 2, 3, 4, 5, 6, 7, 8, 9], profileFieldInRange img k = true) := by decide

/-- A profile at the top of its ranges; an entry with a window and one without; images with bit 2 of byte
0 set and clear. -/
theorem witness_ImagesKeepEveryField :
    ({ method := .slope, settle := 15, cycles := 256, gate := 1000, precharge := 65535,
       stallLimit := 65535, lifetime := 65535, useLimit := 255, reportReferences := true,
       generation := 255 } : Profile).legal = true ∧
    (entry 1 1 0).window ≠ none ∧ ScanEntry.default.window = none ∧
    ((Vector.replicate 15 (4 : Byte))[0]).getLsbD 2 = true ∧
    (Scan.defaultImage[0]).getLsbD 2 = false := by decide

/-! ### Witnesses: requests, results and events -/

theorem witness_FlushesEmptyTheirBlock :
    ((ready busy).atCommand = true ∧ busy.results.records ≠ []) ∧
    ((ready idle).atCommand = true ∧ idle.results.records = []) := by decide

/-- An image beside each range, and one with a channel that is disabled, FAULTED, or good with the
queue full or not. -/
theorem witness_RequestSubmitJoinsTheTail :
    let s := fun (img : Vector Byte 5) (r : ChannelRecord) (n : Nat) =>
      ready { State.reset.setChannel 9 r with requests :=
        { queue := List.replicate n ⟨7, 9, 0, .m1, false, false⟩, image := img } }
    ((s #v[1, 10, 0, 1, 0] .reset 0).atCommand = true) ∧
    (9 < ((#v[1, 10, 0, 1, 0] : Vector Byte 5)[1]).toNat) ∧
    (3 < ((#v[1, 9, 4, 1, 0] : Vector Byte 5)[2]).toNat) ∧
    (((#v[1, 9, 3, 3, 0] : Vector Byte 5)[3]).toNat ∉ [1, 2, 4, 8, 16]) ∧
    (((s #v[1, 9, 3, 16, 0] off 0).channel 9).enabled = false) ∧
    (((s #v[1, 9, 3, 16, 0] broken 0).channel 9).health = .faulted) ∧
    (((s #v[1, 9, 3, 16, 2] broken 7).channel 9).enabled = true ∧
      ((#v[1, 9, 3, 16, 2] : Vector Byte 5)[4]).getLsbD 1 = true ∧
      (s #v[1, 9, 3, 16, 2] broken 7).requests.queue.length < 8) ∧
    8 ≤ (s #v[1, 9, 3, 16, 2] broken 8).requests.queue.length := by decide

/-- A tag that reaches the job of cell B and not that of cell A. -/
theorem witness_RequestCancelReachesQueueAndJobs :
    (ready busy 9).atCommand = true ∧
    ((busy.job .a).any fun j => decide (j.origin = .request 9)) = false ∧
    ((busy.job .b).any fun j => decide (j.origin = .request 9)) = true ∧
    ((heldJob 1 .main 1).job .a).any (fun j => decide (j.origin = .request 9)) = true ∧
    ((heldJob 1 .main 1).cell .a).state.converting = true ∧
    (busy.cell .b).state.converting = false := by decide

theorem witness_ResultPopAndWatermark :
    ((ready busy).atCommand = true ∧ busy.results.records = [record]) ∧
    ((ready idle).atCommand = true ∧ idle.results.records = []) ∧
    (1 ≤ ((ready idle 1).arg 0).toNat ∧ ((ready idle 32).arg 0).toNat ≤ 32 ∧
      ((ready idle 0).arg 0).toNat = 0 ∧ 32 < ((ready idle 33).arg 0).toNat) := by decide

theorem witness_WindowAckRemovesNamedIndexes :
    (ready busy 2 0).atCommand = true ∧ busy.windows.changeSet ≠ 0 := by decide

theorem witness_EventAckClearsNamedFlags :
    (ready (busy.raise .scanOverrun) 0xFF).atCommand = true ∧
      (busy.raise .scanOverrun).raised .scanOverrun = true := by decide

theorem witness_SoftResetResetsEveryBlock : (ready busy).atCommand = true := by decide

/-! ### Witnesses: serial port -/

theorem witness_CodesNameCommands :
    (ready busy).atCommand = true ∧ (0x5B : Byte) ∉ Config.commandCodes ∧
    (framed idle .write 26).atCommand = false ∧ (framed idle .read 25).atCommand = false := by decide

theorem witness_FramesFollowCs :
    (idle.port.csLow = false ∧ idle.resetHeld = false) ∧
    (let s := { idle with resetHeld := true }; s.port.csLow = false ∧ s.resetHeld = true) ∧
    (framed idle .header 0).port.frame = .header ∧ (framed idle .header 0).port.csLow = true ∧
    (framed idle .header 0).port.bitCount = 0 ∧
    ((framed idle .header 0).sckRise .high).port.bitCount ≠ 0 ∧
    (framed idle .header 0).port.loadDue = false ∧
    ((headed busy).port.csLow = true ∧ (headed busy).port.loadDue = true) ∧
    (∀ f ∈ [FrameState.noFrame, .header, .write, .read], ∀ p ∈ [14, 15, 25, 30, 126, 127],
      (framed idle f p).port.bitCount = 0 ∧ (framed idle f p).port.frame = f ∧
        (framed idle f p).port.sckHigh = false ∧ (framed idle f p).port.pointer = p) := by
  decide

/-- The enable location, the ends of the storage locations, and locations that store nothing. -/
theorem witness_WrittenBytesReachOneLocation :
    ∀ p ∈ [16, 17, 24, 32, 60, 61, 62, 66, 67, 127],
      (framed idle .write p).port.frame = .write ∧ (framed idle .write p).port.bitCount = 0 ∧
      (framed idle .write p).port.pointer = p ∧ p ≠ 25 := by decide

/-- Loads due at offsets 11, 80 and 12, with a record and without; a state and a record in the ranges
the bytes of the locations ask for. -/
theorem witness_ReadsLatchAndCopy :
    let due := fun (s : State) (p : BitVec 7) =>
      ({ s with port := { (headed s).port with pointer := p } } : State)
    (∀ p ∈ [10, 11, 12, 80, 127], (due busy p).port.frame = .read ∧
      (due busy p).port.bitCount = 0 ∧ (due busy p).port.sckHigh = true ∧
      (due busy p).port.pointer = p) ∧
    busy.results.records = [record] ∧ idle.results.records = [] ∧
    ([Level.low, .high, .low, .low, .high, .low, .high]).length ≤ 7 ∧
    (busy.requests.queue.length ≤ 8 ∧ busy.results.records.length ≤ 32 ∧
      busy.results.reserved ≤ 4 ∧ ∀ ch : Fin 10, (busy.channel ch).stalls ≤ 7) ∧
    (record.samples ≤ 16 ∧ record.raw = none ∧ record.ratio = none) ∧
    (let r : Record := { record with
       samples := 16, raw := some 16777215, ratio := some ⟨16777215, 16777215, true⟩ }
     r.samples ≤ 16 ∧ (∀ v ∈ r.raw, v ≤ 16777215) ∧
       ∀ q ∈ r.ratio, q.reference ≤ 16777215 ∧ q.ratio ≤ 16777215) := by decide

/-! ### Witnesses: ticks and cycle starts -/

/-- The TRIG levels of a tick: the first sample, the filtered level, and the other twice. -/
theorem witness_TicksCount :
    let s := fun (f : Bool) (n : Nat) =>
      { busy with trig := { Trig.reset .low with firstSample := f, confirming := n } }
    ({ idle with resetHeld := true }).resetHeld = true ∧
    ((s true 0).resetHeld = false ∧ (s true 0).anyDue = false) ∧
    ((s false 0).anyDue = false ∧ (s false 1).anyDue = false ∧ (s false 1).trig.confirming ≤ 1 ∧
      Level.low = (s false 1).trig.filtered ∧ Level.high ≠ (s false 1).trig.filtered) ∧
    (let t := { idle with timebase := { Timebase.reset with intervalPhase := 1000 } }
     t.resetHeld = false ∧ t.timebase.intervalPhase = t.timebase.divider.toNat) := by decide

/-- Everything due at once: an interval tick, a timer expiry, an edge, the end of a rest between orders
and an attempt with a candidate (the clause of TicksCount on arrivals left due). -/
theorem witness_TicksCount_due :
    let s : State := { between .reset with
      timebase := { Timebase.reset with intervalPhase := 1000 }
      timer := { ScanTimer.reset with running := true }
      trig := { Trig.reset .high with confirming := 2, firstSample := false }
      requests := { RequestBlock.reset with queue := [⟨5, 4, 0, .m1, false, false⟩] }
      dispatch := ⟨(between .reset).dispatch.a, ⟨none, true⟩⟩ }
    s.resetHeld = false ∧ RangesHold s ∧ s.anyDue = true :=
  ⟨rfl, by constructor <;> first | decide | (rintro (_ | _) <;> decide), by decide⟩

/-- R169: the 1000th timebase tick after the reset makes the interval tick due, and the 999th does
not (log 25). -/
theorem test_first_interval_tick :
    let s := fun n => { idle with timebase := { Timebase.reset with intervalPhase := n } }
    ((s 998).timebaseTick .low).intervalDue = false ∧
      ((s 999).timebaseTick .low).intervalDue = true := by decide

theorem witness_CycleStartsByTimerAndEdge :
    let p := { cycling with timer := { cycling.timer with pendingPeriod := some 5 } }
    let e := { cycling with
      trig := { Trig.reset .low with confirming := 2, firstSample := false }
      scan := { cycling.scan with source := .pin } }
    (cycling.timer.running = true ∧ cycling.timer.remaining = 0 ∧
      cycling.timer.pendingPeriod = none ∧ p.timer.pendingPeriod = some 5) ∧
    (e.trig.confirming = 2 ∧ e.scan.source = .pin ∧ e.trig.filtered = .low ∧
      e.scan.edge = .rising ∧ e.scan.state ≠ .stopped) ∧
    ({ e with scan := { e.scan with edge := .falling } }).scan.edge ≠ .rising := by decide

/-- A cycle-start event in each scan state, with entries due and with none. -/
theorem witness_CycleStartEvent :
    (ScanConsistent cycling ∧ cycling.scan.state = .waiting ∧
      cycling.applyCommit.dueList 1 = []) ∧
    (ScanConsistent (mixed.setScan { mixed.scan with state := .waiting }) ∧
      (mixed.setScan { mixed.scan with state := .waiting }).dueList 1 ≠ []) ∧
    (ScanConsistent busy ∧ busy.scan.state = .cycle) ∧
    (ScanConsistent (between .reset) ∧ (between .reset).scan.state = .stopping) :=
  ⟨⟨by constructor <;> decide, by decide, by decide⟩, ⟨by constructor <;> decide, by decide⟩,
    ⟨busy_scanConsistent, by decide⟩, by constructor <;> decide, by decide⟩

theorem witness_DueListHoldsTheDueEntries : RangesHold busy := busy_rangesHold

/-! ### Witnesses: conversion cells -/

/-- A cell in STARTING, with settle cycles left and the reference point taken or not. -/
def starting (left : Nat) (taken : Bool) : Cell :=
  { midway .period .starting .stopped 0 with settleLeft := left, referenceTaken := taken }

theorem witness_CrossingsTurnTheLevelAndSettle :
    ((midway .period .measuring (.up 5) 1).level = .high ∧ (Cell.reset .low).level = .low) ∧
    (({ starting 2 true with level := .low } : Cell).state = .starting) ∧
    (Cell.reset .high).state ∈ [CellState.down, .resting, .idle, .precharging] ∧
    (∀ k ∈ [starting 0 false, starting 2 false, starting 1 true, starting 2 true],
      ((withA k).cell .a).level = .high ∧ ((withA k).cell .a).state = .starting ∧
        ((withA k).cell .a).order = some (order .period)) := by decide

/-- COUNT at the last countable crossing and past it and between gates; PERIOD before the last crossing
and at it, with the shortest and the longest sample, and beside the overflow of the same tick, more samples to come and none; SLOPE. -/
theorem witness_LowerCrossingsEndSamples :
    (∀ k ∈ [midway .count .measuring (.down 9) 65534, midway .count .measuring (.down 9) 65535,
        midway .count .measuring .stopped 3],
      ((withA k).cell .a).level = .high ∧ ((withA k).cell .a).order = some (order .count) ∧
        ((withA k).cell .a).state = .measuring) ∧
    (∀ k ∈ [midway .period .measuring (.up 1) 2, midway .period .measuring (.up 1) 3,
        midway .period .measuring (.up 16777215) 3, midway .period .measuring (.up 16777216) 3,
        { midway .period .measuring (.up 1) 3 with samplesDone := 0 }],
      ((withA k).cell .a).level = .high ∧ ((withA k).cell .a).order = some (order .period) ∧
        ((withA k).cell .a).state = .measuring) ∧
    (∀ k ∈ [midway .slope .discharging (.up 1) 0,
        { midway .slope .discharging (.up 1) 0 with samplesDone := 0 }],
      ((withA k).cell .a).level = .high ∧ ((withA k).cell .a).order = some (order .slope) ∧
        ((withA k).cell .a).state = .discharging) ∧
    ((0 : Nat) + 1 < (order .slope).m.toNat ∧ 1 + 1 = (order .slope).m.toNat ∧
      2 + 1 < (order .period).cycles ∧ (order .period).cycles ≤ 3 + 1) := by decide

theorem witness_ExpiriesEndSamples :
    (∀ k ∈ [midway .count .measuring (.down 0) 0, midway .count .measuring (.down 0) 1,
        { midway .count .measuring (.down 0) 1 with samplesDone := 0 }],
      ((withA k).cell .a).order = some (order .count) ∧
        ((withA k).cell .a).phaseTimer = .down 0) ∧
    (∀ k ∈ [midway .slope .precharging (.down 0) 0,
        { midway .slope .precharging (.down 0) 0 with level := .low }],
      ((withA k).cell .a).order = some (order .slope) ∧
        ((withA k).cell .a).state = .precharging) ∧
    ((withA (midway .period .measuring (.up 16777216) 1)).cell .a).phaseTimer = .up 16777216 ∧
    (let k := { midway .slope .discharging (.up 5) 0 with stallTimer := some 1024 }
     ((withA k).cell .a).stallTimer = some ((order .slope).stallLimit * 64)) := by decide

theorem witness_RestEndsInIdleOrTheMainOrder :
    (let s := withA { Cell.reset .low with state := .resting, phaseTimer := .down 0 }
     (s.cell .a).state = .resting ∧ (s.cell .a).phaseTimer = .down 0 ∧ s.job .a = none) ∧
    (∀ r ∈ [ChannelRecord.reset, broken, off],
      ((between r).cell .a).state = .resting ∧ ((between r).cell .a).phaseTimer = .down 0 ∧
        (between r).job .a = some (job (.scan 0 3) .main 1) ∧ (between r).channel 1 = r) := by
  decide

/-! ### Witnesses: health, references, ratios and windows -/

/-- A stall below, at and above the threshold, on a sensor and a reference channel; and outcomes that
pass, forced and not, on a FAULTED channel. -/
theorem witness_HealthFollowsOutcomes :
    State.reset.channels.threshold = 3 ∧
    (∀ p ∈ [(1, Health.suspect), (2, .faulted), (7, .faulted)],
      ((State.reset.setChannel 9 { ChannelRecord.reset with stalls := p.1 }).updateHealth 9 false
        (.stall 0 .high)).channel 9 = ⟨true, p.2, min 7 (p.1 + 1), some .high⟩) ∧
    (∀ f ∈ [true, false],
      ((State.reset.setChannel 9 broken).updateHealth 9 f (.ok 1 5)).channel 9 =
        ⟨true, if f then .good else .faulted, 0, none⟩) := by decide

/-- The main phase of a sensor's request job and of a reference channel's, and of a scan job. -/
theorem witness_MainOutcomesEndTheJob :
    (busy.job .a = some (job (.scan 0 3) .main 1) ∧ (job (.scan 0 3) .main 1).phase = .main ∧
      busy.scan.jobsInFlight = 1) ∧
    (∀ ch ∈ [(1 : Fin 10), 8], (heldJob ch .main 1).job .a =
      some { job (.request 9) .main 1 with channel := ch }) ∧
    (job (.request 9) .main 1).phase = .main ∧ (job (.request 9) .main 1).origin = .request 9 ∧
    (1 : Fin 10).val < 8 ∧ 8 ≤ (8 : Fin 10).val := by decide

theorem witness_ReferenceOutcomesPairOrFail :
    (∀ n ∈ [1, 2], (heldJob 1 .reference n).job .a = some (job (.request 9) .reference n) ∧
      (job (.request 9) .reference n).phase = .reference) := by decide

/-- Readings at the edge of saturation, and a job with a pairing value. -/
theorem witness_RatioIsTruncatedAndSaturates :
    ratioQuotient .period 255 1 = 16711680 ∧ ratioQuotient .period 256 1 = 16777216 ∧
    16777215 < ratioQuotient .count 1 256 ∧ ratioQuotient .slope 256 1 > 16777215 ∧
    (job (.request 9) .main 1).ratio = true ∧ (job (.request 9) .main 1).pairing = some 4 ∧
    ({ entry 1 1 0 with ratio := true }).channel.toNat < 8 := by decide

/-- An entry without a window, a ratio present, absent and not asked for, a reference channel; an entry
with a window, seen without a value, and with its class equal to the state, new, counted
to below the qualify count and to it. -/
theorem witness_WindowsQualifyTransitions :
    let w : Window := { low := 10, high := 20, hysteresis := 1, qualify := 2 }
    let r := fun v : Option Nat => { record with raw := v }
    (busy.scan.active[(2 : Fin 16)]).window = none ∧
    (let e := { entry 1 1 0 with ratio := true }
     e.ratio = true ∧ e.channel.toNat < 8 ∧ record.ratio = none ∧
       ({ record with ratio := some ⟨4, 9, false⟩ } : Record).ratio = some ⟨4, 9, false⟩) ∧
    ((entry 1 1 0).ratio = false ∧ 8 ≤ ({ entry 8 1 0 with ratio := true }).channel.toNat) ∧
    (w.low.toNat < w.high.toNat ∧ (0 : Nat) < 1 ∧ (16777215 : Nat) ≤ 16777215) ∧
    (busy.scan.active[(0 : Fin 16)]).window = some w ∧
    comparedValue busy.scan.active[(0 : Fin 16)] (r none) = none ∧
    comparedValue busy.scan.active[(0 : Fin 16)] (r (some 22)) = some 22 ∧
    (State.reset.windows.records[(0 : Fin 16)]).state = none ∧
    (busy.windows.records[(0 : Fin 16)]).state = some (classify (some .inside) 10 20 1 20) ∧
    (busy.windows.records[(0 : Fin 16)]).pending = some (classify (some .inside) 10 20 1 22) ∧
    (busy.windows.records[(0 : Fin 16)]).pending ≠ some (classify (some .inside) 10 20 1 8) ∧
    (busy.windows.records[(0 : Fin 16)]).count + 1 = w.qualify.toNat := by decide

/-! ### Witnesses: the dispatcher -/

/-- Requests of the other cell before one of the cell's own, due entries of the other cell before one
of its own, nothing; and each judgement. -/
theorem witness_CandidateAndJudgement :
    let r := fun ch : Fin 10 => (⟨5, ch, 0, .m1, false, false⟩ : Request)
    let v := fun (s : State) (ratio force : Bool) =>
      s.judge .a ⟨.request 5, 1, 0, .m1, ratio, force⟩
    ((∀ x ∈ [r 4, r 9], cellOf x.channel ≠ .a) ∧ cellOf (r 8).channel = .a) ∧
    (let s := { mixed with scan := { mixed.scan with due := [1, 3, 5] } }
     (∀ x ∈ [(1 : Fin 16), 3], ∀ ch : Fin 10, ch.val = (s.scan.active[x]).channel.toNat →
       cellOf ch ≠ .a) ∧
     (let e := s.scan.active[(5 : Fin 16)]
      (2 : Fin 10).val = e.channel.toNat ∧ (0 : Fin 4).val = e.profile.toNat ∧
        Averaging.m1.toNat = e.m.toNat ∧ cellOf 2 = .a)) ∧
    (v (State.reset.setChannel 1 off) true true = .unavailable ∧
      v (State.reset.setChannel 1 broken) true false = .unavailable ∧
      v (State.reset.setChannel 1 broken) false true = .converts ∧
      v (State.reset.setChannel 8 off) true false = .refFailed ∧
      v State.reset true false = .held false ∧
      v (State.reset.setReference .a 0 ⟨true, 4800, 0, 7, 0⟩) true false = .paired) := by decide

/-- A plain request, a held one, and a due entry. -/
theorem witness_AttemptGivesTheOrder :
    (∀ ratio ∈ [true, false],
      let s := asking ratio false .reset
      s.opportunity .a = true ∧ (s.cell .a).state = .idle ∧ s.job .a = none ∧
        s.candidate .a = some ⟨.request 5, 1, 0, .m1, ratio, false⟩ ∧
        s.judge .a ⟨.request 5, 1, 0, .m1, ratio, false⟩ = (if ratio then .held false else .converts) ∧
        (s.judge .a ⟨.request 5, 1, 0, .m1, ratio, false⟩).slots ≤ s.freeSlots) ∧
    (let s := (mixed.setOpportunity .a true).setScan
        { mixed.scan with state := .cycle, cycle := 1, due := [0] }
     s.opportunity .a = true ∧ (s.cell .a).state = .idle ∧ s.job .a = none ∧
        s.candidate .a = some ⟨.scan 0 1, 0, 0, .m1, false, false⟩ ∧
        s.judge .a ⟨.scan 0 1, 0, 0, .m1, false, false⟩ = .converts ∧ 1 ≤ s.freeSlots) := by decide

/-- A cell that is not free, one without a candidate, one whose claim finds no place, and candidates
judged UNAVAILABLE and REF_FAILED. -/
theorem witness_AttemptWithoutAnOrder :
    ((busy.setOpportunity .a true).opportunity .a = true ∧ busy.job .a ≠ none) ∧
    ((idle.setOpportunity .a true).opportunity .a = true ∧ idle.candidate .a = none) ∧
    (let s := { asking false false .reset with
       results := { ResultQueue.reset with reserved := 32 } }
     s.opportunity .a = true ∧ s.candidate .a ≠ none ∧ s.freeSlots < 1) ∧
    (let s := asking false false off
     s.opportunity .a = true ∧ (s.cell .a).state = .idle ∧ s.job .a = none ∧ 1 ≤ s.freeSlots ∧
        s.judge .a ⟨.request 5, 1, 0, .m1, false, false⟩ = .unavailable) ∧
    (let s := (asking true false .reset).setChannel 8 off
     s.judge .a ⟨.request 5, 1, 0, .m1, true, false⟩ = .refFailed ∧ 1 ≤ s.freeSlots) ∧
    (let s := ((mixed.setOpportunity .a true).setChannel 0 off).setScan
        { mixed.scan with state := .cycle, cycle := 1, due := [0] }
     s.opportunity .a = true ∧ (s.cell .a).state = .idle ∧ s.job .a = none ∧ 1 ≤ s.freeSlots ∧
        s.candidate .a = some ⟨.scan 0 1, 0, 0, .m1, false, false⟩ ∧
        s.judge .a ⟨.scan 0 1, 0, 0, .m1, false, false⟩ = .unavailable) := by decide

end Sys2Proof.Tests
end

section
/-!
FAULT_THRESHOLD (R47): the rule's two cases, each told apart by the number in the first argument
byte, and what the command leaves with its report.
-/
namespace Sys2Proof.Machine

/-- The row is the command that its code 0x1A names (R200). -/
theorem exec_faultThreshold (s : State) :
    exec .faultThreshold s = .next (s.takeCommand 0x1A (commandOf 0x1A)) := rfl

/-- The row at the command location, from what the rule of R47 answers for the same state. -/
theorem exec_faultThreshold_of_reply {s t : State} {st : CommandStatus} {b0 b1 b2 b3 : Byte}
    (at_command : s.atCommand = true)
    (answers : faultThreshold s = ⟨st, #v[b0, b1, b2, b3], t⟩) :
    exec .faultThreshold s = .next (t.reported 0x1A st b0 b1 b2 b3) := by
  rw [exec_faultThreshold]
  exact congrArg _ (State.takeCommand_reply at_command (commandOf_withPort 0x1A) answers)

/-- The byte test of the rule, as a range of numbers. -/
theorem faultThreshold_refuses_iff (b : Byte) :
    (b = 0 ∨ 7 < b.toNat) ↔ ¬ (1 ≤ b.toNat ∧ b.toNat ≤ 7) := by
  have zero_iff : b = 0 ↔ b.toNat = 0 := BitVec.toNat_inj.symm
  rw [zero_iff]
  omega

theorem faultThreshold_of_legal {s : State} (legal : 1 ≤ (s.arg 0).toNat ∧ (s.arg 0).toNat ≤ 7) :
    faultThreshold s = .done (s.arg 0) (BitVec.ofNat 8 s.channels.threshold) 0 0
      { s with channels := { s.channels with threshold := (s.arg 0).toNat } } :=
  if_neg fun refused => (faultThreshold_refuses_iff _).mp refused legal

theorem faultThreshold_of_not_legal {s : State}
    (illegal : ¬ (1 ≤ (s.arg 0).toNat ∧ (s.arg 0).toNat ≤ 7)) :
    faultThreshold s = .refuse .badParameter 0 0 0 0 s :=
  if_pos ((faultThreshold_refuses_iff _).mpr illegal)

/-- Settles O21: the rule's answer in the legal range and outside it, each carried to the row by
`exec_faultThreshold_of_reply`. -/
theorem faultThresholdIsTaken : Obligations.FaultThresholdIsTaken := by
  intro s at_command
  constructor
  · intro low high
    exact exec_faultThreshold_of_reply at_command (faultThreshold_of_legal ⟨low, high⟩)
  · intro out_of_range
    have illegal : ¬ (1 ≤ (s.arg 0).toNat ∧ (s.arg 0).toNat ≤ 7) := by omega
    exact exec_faultThreshold_of_reply at_command (faultThreshold_of_not_legal illegal)

end Sys2Proof.Machine
end

section
/-!
TABLE_REVERT (R56) and TABLE_ABANDON (R61): each rule's two cases, told apart by the commit-pending
flag, and what the command leaves with its report.
-/
namespace Sys2Proof.Machine

/-- The row of a code of R200 at the command location, from what that code's rule answers for the same
state. -/
theorem exec_command_of_reply {i : Instr} {code : Byte} {s t : State} {st : CommandStatus}
    {b0 b1 b2 b3 : Byte} (row : exec i s = .next (s.takeCommand code (commandOf code)))
    (at_command : s.atCommand = true)
    (answers : commandOf code s = ⟨st, #v[b0, b1, b2, b3], t⟩) :
    exec i s = .next (t.reported code st b0 b1 b2 b3) := by
  rw [row, State.takeCommand_reply at_command (commandOf_withPort code) answers]

theorem exec_tableRevert (s : State) :
    exec .tableRevert s = .next (s.takeCommand 0x32 (commandOf 0x32)) := rfl

theorem exec_tableAbandon (s : State) :
    exec .tableAbandon s = .next (s.takeCommand 0x34 (commandOf 0x34)) := rfl

theorem tableRevert_of_pending {s : State} (pending : s.scan.commitPending = true) :
    tableRevert s = .refuse .frozen 0 0 0 0 s :=
  if_pos pending

theorem tableRevert_of_not_pending {s : State} (clear : s.scan.commitPending = false) :
    tableRevert s = .done 0 0 0 0 (s.setScan { s.scan with staging := s.scan.active }) :=
  if_neg (ne_true_of_eq_false clear)

theorem tableAbandon_of_pending {s : State} (pending : s.scan.commitPending = true) :
    tableAbandon s = .done 0 0 0 0 (s.setScan { s.scan with commitPending := false }) :=
  if_pos pending

theorem tableAbandon_of_not_pending {s : State} (clear : s.scan.commitPending = false) :
    tableAbandon s = .refuse .notPending 0 0 0 0 s :=
  if_neg (ne_true_of_eq_false clear)

/-- Settles O27: the rule's answer with the flag clear and with it set, each carried to the row by
`exec_command_of_reply`. -/
theorem tableRevertCopiesActive : Obligations.TableRevertCopiesActive := by
  intro s at_command
  constructor
  · intro clear
    exact exec_command_of_reply (exec_tableRevert s) at_command (tableRevert_of_not_pending clear)
  · intro pending
    exact exec_command_of_reply (exec_tableRevert s) at_command (tableRevert_of_pending pending)

/-- Settles O30: the rule's answer with the flag set and with it clear, each carried to the row by
`exec_command_of_reply`. -/
theorem tableAbandonClearsThePendingCommit :
    Obligations.TableAbandonClearsThePendingCommit := by
  intro s at_command
  constructor
  · intro pending
    exact exec_command_of_reply (exec_tableAbandon s) at_command (tableAbandon_of_pending pending)
  · intro clear
    exact exec_command_of_reply (exec_tableAbandon s) at_command (tableAbandon_of_not_pending clear)

end Sys2Proof.Machine
end

section
/-!
The ratio unit (R132 to R134): the quotient is truncated, it saturates at 256 times the divisor, and
the main record carries the value reported beside the unaltered raw fields.
-/
namespace Sys2Proof.Machine

/-! ### The quotient (R133) -/

theorem ratioQuotient_count (sensor reference : Nat) :
    ratioQuotient .count sensor reference = reference * 65536 / sensor := rfl

theorem ratioQuotient_of_ne_count {m : Method} (not_count : m ≠ .count) (sensor reference : Nat) :
    ratioQuotient m sensor reference = sensor * 65536 / reference := by
  cases m with
  | period => rfl
  | slope => rfl
  | count => exact absurd rfl not_count

theorem div_mul_le_and_lt_succ_div_mul (x : Nat) {d : Nat} (nonzero : d ≠ 0) :
    x / d * d ≤ x ∧ x < (x / d + 1) * d :=
  ⟨Nat.div_mul_le_self x d,
    Nat.lt_mul_of_div_lt (Nat.lt_succ_self _) (Nat.pos_of_ne_zero nonzero)⟩

/-- The first quotient above 16777215 is 256 × 65536, so the factor 65536 cancels. -/
theorem maxValue_lt_div_iff (x : Nat) {d : Nat} (nonzero : d ≠ 0) :
    Config.maxValue < x * 65536 / d ↔ 256 * d ≤ x := by
  calc Config.maxValue < x * 65536 / d
      ↔ 16777216 * d ≤ x * 65536 := Nat.le_div_iff_mul_le (Nat.pos_of_ne_zero nonzero)
    _ ↔ 256 * d ≤ x := by omega

/-! ### What the unit reports (R134) -/

@[simp] theorem ratioOf_reference (m : Method) (sensor reference : Nat) :
    (ratioOf m sensor reference).reference = reference := rfl

theorem ratioOf_saturated_iff {m : Method} {sensor reference : Nat} :
    (ratioOf m sensor reference).saturated = true ↔
      Config.maxValue < ratioQuotient m sensor reference :=
  decide_eq_true_iff

theorem ratioOf_ratio_of_lt {m : Method} {sensor reference : Nat}
    (above : Config.maxValue < ratioQuotient m sensor reference) :
    (ratioOf m sensor reference).ratio = Config.maxValue :=
  min_eq_right above.le

theorem ratioOf_ratio_of_le {m : Method} {sensor reference : Nat}
    (within : ratioQuotient m sensor reference ≤ Config.maxValue) :
    (ratioOf m sensor reference).ratio = ratioQuotient m sensor reference :=
  min_eq_left within

theorem ratioOf_not_saturated {m : Method} {sensor reference : Nat}
    (within : ratioQuotient m sensor reference ≤ Config.maxValue) :
    (ratioOf m sensor reference).saturated = false :=
  decide_eq_false within.not_gt

/-! ### The record and its compared value (R132, R157) -/

theorem Job.mainRecord_ratio_of_pairing {j : Job} {reference : Nat} (wanted : j.ratio = true)
    (paired : j.pairing = some reference) (n sensor : Nat) (now : BitVec 32) :
    (j.mainRecord (.ok n sensor) now).ratio = some (ratioOf j.copy.method sensor reference) := by
  simp only [Job.mainRecord, Outcome.raw, wanted, paired]

theorem comparedValue_of_ratio_entry {e : ScanEntry} (wanted : e.ratio = true)
    (on_sensor : e.channel.toNat < 8) (r : Record) :
    comparedValue e r = r.ratio.map (·.ratio) :=
  if_pos ⟨wanted, on_sensor⟩

/-- Settles O56: the method chooses the divisor; for either one the two facts about its quotient are
the bounds of `div_mul_le_and_lt_succ_div_mul` and the saturation point of `maxValue_lt_div_iff`. The
record carries what `ratioOf` gives. -/
theorem ratioIsTruncatedAndSaturates : Obligations.RatioIsTruncatedAndSaturates := by
  refine ⟨fun m sensor reference sensor_ne reference_ne => ⟨?_, ?_⟩,
    fun m sensor reference sensor_ne reference_ne => ⟨ratioOf_reference m sensor reference,
      fun above => ⟨ratioOf_ratio_of_lt above, ratioOf_saturated_iff.mpr above⟩,
      fun within => ⟨ratioOf_ratio_of_le within, ratioOf_not_saturated within⟩, ?_, ?_⟩,
    fun j n sensor reference now wanted paired => ?_⟩
  · intro not_count
    rw [ratioQuotient_of_ne_count not_count]
    exact div_mul_le_and_lt_succ_div_mul _ reference_ne
  · rintro rfl
    rw [ratioQuotient_count]
    exact div_mul_le_and_lt_succ_div_mul _ sensor_ne
  · intro not_count
    rw [ratioOf_saturated_iff, ratioQuotient_of_ne_count not_count]
    exact maxValue_lt_div_iff sensor reference_ne
  · rintro rfl
    rw [ratioOf_saturated_iff, ratioQuotient_count]
    exact maxValue_lt_div_iff reference sensor_ne
  · have carried := Job.mainRecord_ratio_of_pairing wanted paired n sensor now
    refine ⟨rfl, rfl, carried, fun e entry_wanted on_sensor => ?_⟩
    rw [comparedValue_of_ratio_entry entry_wanted on_sensor, carried, Option.map_some]

end Sys2Proof.Machine
end

section
/-!
WINDOW_ACK (R164): the rule has one case; the level condition WINDOW (R165) read index by index; and
what the command leaves with its report.
-/
namespace Sys2Proof.Machine

theorem exec_windowAck (s : State) :
    exec .windowAck s = .next (s.takeCommand 0x50 (commandOf 0x50)) := rfl

/-- The change set after an acknowledgement, as set difference. -/
def State.changeSetAcked (s : State) : BitVec 16 := s.windows.changeSet &&& ~~~ s.arg01

theorem windowAck_eq (s : State) :
    windowAck s = .done (byteOf s.windows.changeSet.toNat 0) (byteOf s.windows.changeSet.toNat 1)
      (byteOf s.changeSetAcked.toNat 0) (byteOf s.changeSetAcked.toNat 1)
      { s with windows := { s.windows with changeSet := s.changeSetAcked } } := rfl

theorem State.changeSetAcked_getLsbD (s : State) (i : Fin 16) :
    s.changeSetAcked.getLsbD i.val =
      (s.windows.changeSet.getLsbD i.val && !(s.arg01.getLsbD i.val)) := by
  rw [State.changeSetAcked, BitVec.getLsbD_and, BitVec.getLsbD_not, decide_eq_true i.isLt,
    Bool.true_and]

/-- A bit vector other than 0 has a bit that is set. -/
theorem bitVec_ne_zero_iff_exists_getLsbD {n : Nat} (x : BitVec n) :
    x ≠ 0 ↔ ∃ i : Fin n, x.getLsbD i.val = true := by
  constructor
  · intro nonzero
    by_contra none_set
    refine nonzero (BitVec.eq_of_getLsbD_eq fun i below => ?_)
    have clear : x.getLsbD i = false := eq_false_of_ne_true fun set => none_set ⟨⟨i, below⟩, set⟩
    rw [clear]
    exact BitVec.getLsbD_zero.symm
  · rintro ⟨i, set⟩ rfl
    exact Bool.false_ne_true (BitVec.getLsbD_zero.symm.trans set)

theorem State.windowActive_iff (s : State) :
    s.windowActive = true ↔ ∃ i : Fin 16, s.windows.changeSet.getLsbD i.val = true :=
  bne_iff_ne.trans (bitVec_ne_zero_iff_exists_getLsbD _)

/-- Settles O37: the set left is the set difference `changeSetAcked`; the rule's one answer is carried
to the row by `exec_command_of_reply`, and WINDOW is read from the set it leaves. -/
theorem windowAckRemovesNamedIndexes : Obligations.WindowAckRemovesNamedIndexes := by
  intro s at_command
  exact ⟨s.changeSetAcked, _,
    exec_command_of_reply (exec_windowAck s) at_command (windowAck_eq s),
    s.changeSetAcked_getLsbD, rfl, State.windowActive_iff _⟩

end Sys2Proof.Machine
end

section
/-!
EVENT_ACK (R184): the rule has one case; the flags it leaves, place by place; the event flags byte
(R178, R183) and IRQ# (R182) read event by event.
-/
namespace Sys2Proof.Machine

/-! ### The flags byte and IRQ#, event by event -/

/-- A level condition shows only at the places of its mask. -/
theorem getLsbD_mask_of_condition (active : Bool) (mask : Byte) (n : Nat) :
    (if active then mask else 0).getLsbD n = (active && mask.getLsbD n) := by
  cases active with
  | false => exact BitVec.getLsbD_zero
  | true => rfl

theorem State.activeEvents_getLsbD (s : State) {n : Nat} (place : n < 8) :
    s.activeEvents.getLsbD n = (s.events.flags.getLsbD n ||
      (s.resultActive && (0x40 : Byte).getLsbD n) ||
      (s.windowActive && (0x80 : Byte).getLsbD n)) := by
  rw [State.activeEvents, BitVec.getLsbD_or, BitVec.getLsbD_or, BitVec.getLsbD_setWidth,
    decide_eq_true place, Bool.true_and, getLsbD_mask_of_condition, getLsbD_mask_of_condition]

theorem State.activeEvents_latched (s : State) (n : Fin 6) :
    s.activeEvents.getLsbD n.val = s.events.flags.getLsbD n.val := by
  have off_result : ∀ k : Fin 6, (0x40 : Byte).getLsbD k.val = false := by decide
  have off_window : ∀ k : Fin 6, (0x80 : Byte).getLsbD k.val = false := by decide
  rw [s.activeEvents_getLsbD (n.isLt.trans (by decide)), off_result, off_window, Bool.and_false,
    Bool.and_false, Bool.or_false, Bool.or_false]

/-- The six latched flags have no place 6 or 7. -/
theorem State.activeEvents_result (s : State) : s.activeEvents.getLsbD 6 = s.resultActive := by
  simpa using s.activeEvents_getLsbD (n := 6) (by decide)

theorem State.activeEvents_window (s : State) : s.activeEvents.getLsbD 7 = s.windowActive := by
  simpa using s.activeEvents_getLsbD (n := 7) (by decide)

/-- IRQ# is low exactly when one of the eight events is both active and enabled (R182). -/
theorem State.irqLow_iff_exists_event (s : State) :
    s.irqLow = true ↔
      ∃ n : Fin 8, s.activeEvents.getLsbD n.val = true ∧ s.events.enable.getLsbD n.val = true := by
  rw [State.irqLow, bne_iff_ne, bitVec_ne_zero_iff_exists_getLsbD]
  simp only [BitVec.getLsbD_and, Bool.and_eq_true]

/-- The eight events of `irqLow_iff_exists_event` by their kinds: latched, RESULT and WINDOW. -/
theorem State.irqLow_iff (s : State) :
    s.irqLow = true ↔
      (∃ n : Fin 6, s.events.flags.getLsbD n.val = true ∧ s.events.enable.getLsbD n.val = true) ∨
      (s.resultActive = true ∧ s.events.enable.getLsbD 6 = true) ∨
      (s.windowActive = true ∧ s.events.enable.getLsbD 7 = true) := by
  rw [State.irqLow_iff_exists_event, Fin.exists_fin_succ', Fin.exists_fin_succ', or_assoc]
  simp only [Fin.val_castSucc, Fin.val_last, State.activeEvents_latched,
    State.activeEvents_result, State.activeEvents_window]

/-! ### The command -/

theorem exec_eventAck (s : State) :
    exec .eventAck s = .next (s.takeCommand 0x51 (commandOf 0x51)) := rfl

/-- The latched flags after an acknowledgement, as set difference. -/
def State.flagsAcked (s : State) : BitVec 6 := s.events.flags &&& ~~~ (s.arg 0).setWidth 6

/-- The state an acknowledgement leaves, before its report. -/
def State.eventsAcked (s : State) : State :=
  { s with
    events := { s.events with flags := s.flagsAcked }
    scan := { s.scan with overrun := if (s.arg 0).getLsbD 1 then 0 else s.scan.overrun } }

theorem eventAck_eq (s : State) :
    eventAck s = .done (s.events.flags.setWidth 8) (s.flagsAcked.setWidth 8) s.scan.overrun 0
      s.eventsAcked := rfl

theorem State.flagsAcked_getLsbD (s : State) (n : Fin 6) :
    s.flagsAcked.getLsbD n.val =
      (s.events.flags.getLsbD n.val && !((s.arg 0).getLsbD n.val)) := by
  rw [State.flagsAcked, BitVec.getLsbD_and, BitVec.getLsbD_not, BitVec.getLsbD_setWidth,
    decide_eq_true n.isLt, Bool.true_and, Bool.true_and]

/-- Settles O38: the flags left are the set difference `flagsAcked`; the rule's one answer is carried
to the row by `exec_command_of_reply`. The results, the change set and the enable set are not reached,
so RESULT and WINDOW stay and `irqLow_iff` reads IRQ# from the flags left. -/
theorem eventAckClearsNamedFlags : Obligations.EventAckClearsNamedFlags := by
  intro s at_command
  exact ⟨s.flagsAcked, _,
    exec_command_of_reply (exec_eventAck s) at_command (eventAck_eq s),
    s.flagsAcked_getLsbD, rfl, rfl, rfl, State.irqLow_iff _⟩

end Sys2Proof.Machine
end

section
-- One declaration at a time: the stacks of parallel elaboration do not fit under the memory limit.
set_option Elab.async false
/-!
What a step is made of, said once for the invariants over every step. A property of the state that
reads none of the registers in `SameRegisters`' exceptions is kept by every step when the commands,
the crossings, the arrivals and the counting of a tick keep it (`KeptBySteps`). Where a property holds
also between the acts of an arrival, it is enough that each act on a cell, its job and its record
keeps it (`KeptByActs`).
-/
namespace Sys2Proof.Machine

/-- Two states that differ at most in the images, the snapshot and its mark, the timebase's counts and
prescale, the event unit, the port, the command unit, RESET# and the model's own fields. -/
structure SameRegisters (s t : State) : Prop where
  cells : t.cells = s.cells
  dispatch : t.dispatch = s.dispatch
  profiles : t.profiles.records = s.profiles.records
  channels : t.channels = s.channels
  scan : t.scan = { s.scan with image := t.scan.image }
  queue : t.requests.queue = s.requests.queue
  references : t.references = s.references
  results : t.results = { s.results with
    snapshot := t.results.snapshot, current := t.results.current }
  windows : t.windows = s.windows
  divider : t.timebase.divider = s.timebase.divider
  timer : t.timer = s.timer
  trig : t.trig = s.trig

/-- A property that every command and every arrival keeps, and that reads no register outside
`SameRegisters`. -/
structure KeptBySteps (P : State → Prop) : Prop where
  unread : ∀ s t, SameRegisters s t → P s → P t
  rules : ∀ code s, P s → P (commandOf code s).state
  deviceReset : ∀ s, P s → P s.deviceReset
  upperCrossing : ∀ s c, P s → P (s.upperCrossing c)
  lowerCrossing : ∀ s c, P s → P (s.lowerCrossing c)
  commitApply : ∀ s, P s → P s.commitApply
  arrival : ∀ s a, P s → P (s.takeArrival a)
  countTick : ∀ s l, P s → P (s.countTick l)

theorem KeptBySteps.step {P : State → Prop} (k : KeptBySteps P) {s t : State} (h : P s)
    (hs : step s = .next t) : P t :=
  step_keeps_inner P
    (fun _ _ => k.unread _ _ ⟨rfl, rfl, rfl, rfl, rfl, rfl, rfl, rfl, rfl, rfl, rfl, rfl⟩)
    (fun _ _ => k.unread _ _ ⟨rfl, rfl, rfl, rfl, rfl, rfl, rfl, rfl, rfl, rfl, rfl, rfl⟩)
    (fun _ _ => k.unread _ _ ⟨rfl, rfl, rfl, rfl, rfl, rfl, rfl, rfl, rfl, rfl, rfl, rfl⟩)
    (fun _ _ => k.unread _ _ ⟨rfl, rfl, rfl, rfl, rfl, rfl, rfl, rfl, rfl, rfl, rfl, rfl⟩)
    (fun _ _ => k.unread _ _ ⟨rfl, rfl, rfl, rfl, rfl, rfl, rfl, rfl, rfl, rfl, rfl, rfl⟩)
    (fun _ _ => k.unread _ _ ⟨rfl, rfl, rfl, rfl, rfl, rfl, rfl, rfl, rfl, rfl, rfl, rfl⟩)
    (fun _ _ => k.unread _ _ ⟨rfl, rfl, rfl, rfl, rfl, rfl, rfl, rfl, rfl, rfl, rfl, rfl⟩)
    (fun _ _ => k.unread _ _ ⟨rfl, rfl, rfl, rfl, rfl, rfl, rfl, rfl, rfl, rfl, rfl, rfl⟩)
    (fun _ _ => k.unread _ _ ⟨rfl, rfl, rfl, rfl, rfl, rfl, rfl, rfl, rfl, rfl, rfl, rfl⟩)
    (fun _ _ => k.unread _ _ ⟨rfl, rfl, rfl, rfl, rfl, rfl, rfl, rfl, rfl, rfl, rfl, rfl⟩)
    (fun _ _ => k.unread _ _ ⟨rfl, rfl, rfl, rfl, rfl, rfl, rfl, rfl, rfl, rfl, rfl, rfl⟩)
    (fun _ _ _ => k.unread _ _ ⟨rfl, rfl, rfl, rfl, rfl, rfl, rfl, rfl, rfl, rfl, rfl, rfl⟩)
    k.rules k.deviceReset
    (fun _ _ => k.unread _ _ ⟨rfl, rfl, rfl, rfl, rfl, rfl, rfl, rfl, rfl, rfl, rfl, rfl⟩)
    k.upperCrossing k.lowerCrossing k.commitApply k.arrival k.countTick h hs

/-! ### The events of a cell's own -/

/-- An event of a cell's own, with what it leaves of the cell and the outcome it delivers: a lower
crossing, or an expiry that is due (R1, R11, R14, R15, R21). -/
inductive Cell.OwnEvent (divider : Nat) (k : Cell) : Cell × Option Outcome → Prop
  | lower : OwnEvent divider k (k.lowerCrossing divider)
  | gate (due : k.gateDue = true) : OwnEvent divider k k.expireGate
  | precharge (due : k.prechargeDue = true) : OwnEvent divider k k.releaseCapacitor
  | overflow (due : k.overflowDue = true) :
      OwnEvent divider k (k, some (.overrange k.samplesDone))
  | stall (due : k.stallDue = true) : OwnEvent divider k (k, some k.stallOutcome)

theorem Cell.OwnEvent.sameStage {d : Nat} {k : Cell} {r : Cell × Option Outcome}
    (e : k.OwnEvent d r) : r.1.SameStage k := by
  cases e with
  | lower => exact k.lowerCrossing_sameStage d
  | gate => exact k.expireGate_sameStage
  | precharge due => exact Cell.releaseCapacitor_sameStage due
  | overflow => exact ⟨rfl, .inl rfl⟩
  | stall => exact ⟨rfl, .inl rfl⟩

/-- A lower crossing delivers an outcome only from an order. -/
theorem Cell.lowerCrossing_delivers {d : Nat} {k : Cell} {o : Outcome}
    (h : (k.lowerCrossing d).2 = some o) : k.order.isSome = true := by
  by_contra hn
  obtain hn : k.order = none := by simpa using hn
  unfold Cell.lowerCrossing at h
  split at h <;> simp [hn] at h

/-- Only a cell with an order delivers an outcome. -/
theorem Cell.OwnEvent.order_isSome {d : Nat} {k : Cell} {r : Cell × Option Outcome} {o : Outcome}
    (e : k.OwnEvent d r) (h : r.2 = some o) : k.order.isSome = true := by
  cases e with
  | lower => exact Cell.lowerCrossing_delivers h
  | gate due => cases ho : k.order <;> simp_all [Cell.gateDue]
  | precharge due => cases ho : k.order <;> simp_all [Cell.prechargeDue]
  | overflow due => cases ho : k.order <;> simp_all [Cell.overflowDue]
  | stall due => cases ho : k.order <;> simp_all [Cell.stallDue]

/-- An event of a cell's own moves the cell, or delivers the outcome of its order. -/
theorem State.settleCell_cases (s : State) (c : CellId) {r : Cell × Option Outcome} {d : Nat}
    (e : (s.cell c).OwnEvent d r) :
    (r.2 = none ∧ s.settleCell c r = s.setCell c r.1) ∨
    ∃ o order, r.2 = some o ∧ r.1.order = some order ∧
      s.settleCell c r = (s.setCell c r.1).deliver c order.channel o := by
  obtain ⟨k, out⟩ := r
  cases out with
  | none => exact .inl ⟨rfl, rfl⟩
  | some o =>
    have h := e.order_isSome rfl
    obtain ⟨order, ho⟩ := Option.isSome_iff_exists.mp h
    have hk : k.order = some order := e.sameStage.1.trans ho
    exact .inr ⟨o, order, rfl, hk, s.settleCell_some c k o hk⟩

/-- The arrivals, and the lower crossing, by what they do: a property is kept by all of them when the
timebase's arrivals, the events of a cell's own, the end of a rest and an attempt keep it. -/
theorem State.takeArrival_keeps {P : State → Prop}
    (interval : ∀ s, P s → P s.intervalTick) (timer : ∀ s, P s → P s.scanTimerExpiry)
    (edge : ∀ s, P s → P s.trigEdge)
    (own : ∀ s c r, (s.cell c).OwnEvent s.timebase.divider.toNat r → P s → P (s.settleCell c r))
    (rest : ∀ s c, P s → P (s.restExpiry c)) (attempt : ∀ s c, P s → P (s.attempt c))
    (s : State) (a : Arrival) (h : P s) : P (s.takeArrival a) := by
  have ifDue : ∀ (s : State) (c : CellId) (b : Bool) r, P s →
      (b = true → (s.cell c).OwnEvent s.timebase.divider.toNat r) →
      P (if b then s.settleCell c r else s) := by
    intro s c b r h e
    split
    · exact own _ _ _ (e ‹_›) h
    · exact h
  cases a with
  | intervalTick => exact interval s h
  | scanTimerExpiry => exact timer s h
  | trigEdge => exact edge s h
  | gateExpiry c => exact ifDue s c _ _ h .gate
  | prechargeExpiry c => exact ifDue s c _ _ h .precharge
  | periodOverflow c => exact ifDue s c _ _ h .overflow
  | stallExpiry c => exact ifDue s c _ _ h .stall
  | restExpiry c => exact rest s c h
  | dispatchAttempt c => exact attempt s c h

/-! ### Attempts and rests -/

/-- An attempt uses its opportunity up, or dispatches its candidate. -/
theorem State.attempt_cases (s : State) (c : CellId) :
    s.attempt c = s ∨ s.attempt c = s.setOpportunity c false ∨
    ∃ w, let u := s.setOpportunity c false
      u.idleFree c = true ∧ u.candidate c = some w ∧ (u.judge c w).slots ≤ u.freeSlots ∧
        s.attempt c = u.dispatchWork c w (u.judge c w) := by
  unfold State.attempt
  split
  · dsimp only
    split
    · rename_i hf
      split
      · exact .inr (.inl rfl)
      · rename_i w hw
        split
        · exact .inr (.inr ⟨w, by simpa using hf, hw, ‹_›, rfl⟩)
        · exact .inr (.inl rfl)
    · exact .inr (.inl rfl)
  · exact .inl rfl

/-- A rest that ends: a free cell is given an opportunity, and a job is rechecked. -/
theorem State.restExpiry_cases (s : State) (c : CellId) :
    s.restExpiry c = s ∨ ((s.cell c).restDue = true ∧
      let u := s.setCell c (s.cell c).endRest
      (s.job c = none ∧ s.restExpiry c = u.offer c) ∨
      ∃ j, s.job c = some j ∧
        (s.restExpiry c = u.giveOrder c (orderOf j.channel j.copy j.m) ∨
          s.restExpiry c = u.completeAtDispatch c j .unavailable)) := by
  unfold State.restExpiry
  split
  · rename_i hd
    refine .inr ⟨hd, ?_⟩
    dsimp only
    split
    · exact .inl ⟨by simpa using ‹_›, rfl⟩
    · rename_i j hj
      refine .inr ⟨j, by simpa using hj, ?_⟩
      unfold State.recheck
      dsimp only
      split
      · exact .inl rfl
      · exact .inr rfl
  · exact .inl rfl

/-! ### REQUEST_CANCEL -/

theorem State.cancelJobs_keeps {P : State → Prop} (unread : ∀ s t, SameRegisters s t → P s → P t)
    (cancel : ∀ s tag c, P s → P (s.cancelJob tag c)) (s : State) (tag : Byte) (h : P s) :
    P (s.cancelJobs tag) := by
  unfold State.cancelJobs
  split
  · have hf := unread s { s with freeIndex := s.freeIndex + 1 }
      ⟨rfl, rfl, rfl, rfl, rfl, rfl, rfl, rfl, rfl, rfl, rfl, rfl⟩ h
    exact cancel _ _ _ (cancel _ _ _ hf)
  · exact cancel _ _ _ (cancel _ _ _ h)

/-- REQUEST_CANCEL, from what the property needs of the request queue and of the job of a cell. -/
theorem requestCancel_keeps {P : State → Prop} (unread : ∀ s t, SameRegisters s t → P s → P t)
    (queue : ∀ (s : State) q, q.length ≤ s.requests.queue.length → P s →
      P { s with requests := { s.requests with queue := q } })
    (cancel : ∀ s tag c, P s → P (s.cancelJob tag c)) (s : State) (h : P s) :
    P (requestCancel s).state := by
  have hq := queue s (s.requests.queue.filter fun r => decide (r.tag ≠ s.arg 0))
    (List.length_filter_le ..) h
  exact State.cancelJobs_keeps unread cancel _ _ hq

/-! ### Properties that hold between acts -/

/-- A property that every act on a cell, its job and its records keeps. `Sound` is what the property
needs of the outcomes that a cell delivers. -/
structure KeptByActs (P : State → Prop) (Sound : Outcome → Prop) : Prop where
  moved : ∀ s c r, (s.cell c).OwnEvent s.timebase.divider.toNat r → r.2 = none → P s →
    P (s.setCell c r.1)
  delivered : ∀ s c r o, (s.cell c).OwnEvent s.timebase.divider.toNat r → r.2 = some o → P s →
    P (s.setCell c r.1.rest) ∧ Sound o
  aborted : ∀ s c, P s → P (s.setCell c (s.cell c).abort)
  disabled : ∀ s c, P s → P (s.setCell c (s.cell c).disable)
  restEnded : ∀ s c, (s.cell c).restDue = true → P s → P (s.setCell c (s.cell c).endRest)
  ordered : ∀ s c j ch m, s.job c = some j → P s → P (s.giveOrder c (orderOf ch j.copy m))
  opportunity : ∀ s c b, P s → P (s.setOpportunity c b)
  health : ∀ s ch forced o, P s → P (s.updateHealth ch forced o)
  offered : ∀ s c j o n, s.job c = some j → Sound o → P s → P (s.offerReference c j o n)
  reported : ∀ s c j o now, s.job c = some j → Sound o → P s → P (s.append (j.reportRecord c o now))
  paired : ∀ s c j n raw, s.job c = some j → Sound (.ok n raw) → P s →
    P (s.setJob c (some { j with
      pairing := some raw, refreshed := true, phase := .main, slots := 1 }))
  completed : ∀ s c j o now, s.job c = some j → Sound o → P s →
    P (s.finishJob c j (j.mainRecord o now))
  ended : ∀ s c j st now, s.job c = some j → P s → P (s.finishJob c j (j.endRecord st now))
  released : ∀ s, P s → P s.release
  claimed : ∀ s c w, s.job c = none → s.candidate c = some w → P s →
    P (((s.reserve (s.judge c w).slots).withdraw c w).setJob c (some (s.jobOf c w (s.judge c w))))
  spent : ∀ s c p, P s → P (s.spendUse c p)

section
variable {P : State → Prop} {Sound : Outcome → Prop} (k : KeptByActs P Sound)
include k

theorem KeptByActs.offer (s : State) (c : CellId) (h : P s) : P (s.offer c) := by
  unfold State.offer
  split
  · exact k.opportunity _ _ _ h
  · exact h

theorem KeptByActs.offerBoth (s : State) (h : P s) : P s.offerBoth :=
  k.offer _ _ (k.offer _ _ h)

theorem KeptByActs.reportReference (s : State) (c : CellId) (j : Job) (o : Outcome)
    (hj : s.job c = some j) (ho : Sound o) (h : P s) : P (s.reportReference c j o) := by
  unfold State.reportReference
  split
  · exact k.reported _ _ _ _ _ hj ho h
  · exact h

/-- The outcome of a cell that rests already. -/
theorem KeptByActs.deliver (s : State) (c : CellId) (ch : Fin 10) (o : Outcome) (ho : Sound o)
    (h : P (s.setCell c (s.cell c).rest)) : P (s.deliver c ch o) := by
  unfold State.deliver
  dsimp only
  split
  · exact k.health _ _ _ _ h
  · rename_i j hj
    split
    · have hu := k.health _ ch false o h
      split
      · rename_i n raw
        have hc := k.offered _ c j _ 1 (by simpa using hj) ho hu
        have hr := k.reportReference _ c j _ (by simpa using hj) ho hc
        exact k.paired _ c j _ raw (by simpa using hj) ho hr
      · have hc := k.offered _ c j _ 1 (by simpa using hj) ho hu
        have hr := k.reportReference _ c j _ (by simpa using hj) ho hc
        exact k.ended _ c j .refFailed _ (by simpa using hj) hr
    · have hu := k.health _ ch j.force o h
      unfold State.mainCompleted
      dsimp only
      split
      · have hc := k.offered _ c j _ 0 (by simpa using hj) ho hu
        exact k.completed _ c j o _ (by simpa using hj) ho hc
      · exact k.completed _ c j o _ (by simpa using hj) ho hu

theorem KeptByActs.settleCell (s : State) (c : CellId) (r : Cell × Option Outcome)
    (e : (s.cell c).OwnEvent s.timebase.divider.toNat r) (h : P s) : P (s.settleCell c r) := by
  obtain ⟨hn, he⟩ | ⟨o, order, ho, -, he⟩ := s.settleCell_cases c e
  · rw [he]; exact k.moved _ _ _ e hn h
  · rw [he]
    obtain ⟨hr, sound⟩ := k.delivered _ _ _ _ e ho h
    refine k.deliver _ _ _ _ sound ?_
    have : (s.setCell c r.1).setCell c ((s.setCell c r.1).cell c).rest = s.setCell c r.1.rest := by
      cases c <;> simp [State.setCell, State.cell]
    rwa [this]

theorem KeptByActs.completeAtDispatch (s : State) (c : CellId) (j : Job) (st : RecordStatus)
    (hj : s.job c = some j) (h : P s) : P (s.completeAtDispatch c j st) :=
  k.offer _ _ (k.ended _ _ _ _ _ hj h)

theorem KeptByActs.restExpiry (s : State) (c : CellId) (h : P s) : P (s.restExpiry c) := by
  obtain he | ⟨hd, ⟨-, he⟩ | ⟨j, hj, he | he⟩⟩ := s.restExpiry_cases c <;> rw [he]
  · exact h
  · exact k.offer _ _ (k.restEnded _ _ hd h)
  · exact k.ordered _ _ _ _ _ (by simpa using hj) (k.restEnded _ _ hd h)
  · exact k.completeAtDispatch _ _ _ _ (by simpa using hj) (k.restEnded _ _ hd h)

theorem KeptByActs.dispatchWork (s : State) (c : CellId) (w : Work) (hj : s.job c = none)
    (hw : s.candidate c = some w) (h : P s) : P (s.dispatchWork c w (s.judge c w)) := by
  have hc := k.claimed s c w hj hw h
  unfold State.dispatchWork
  dsimp only
  split
  · exact k.completeAtDispatch _ _ _ _ (by simp) hc
  · exact k.completeAtDispatch _ _ _ _ (by simp) hc
  · exact k.ordered _ _ _ _ _ (by simp) hc
  · exact k.ordered _ _ _ _ _ (by simp) (k.spent _ _ _ hc)
  · exact k.ordered _ _ _ _ _ (by simp) hc

theorem KeptByActs.attempt (s : State) (c : CellId) (h : P s) : P (s.attempt c) := by
  obtain he | he | ⟨w, hf, hw, -, he⟩ := s.attempt_cases c <;> rw [he]
  · exact h
  · exact k.opportunity _ _ _ h
  · exact k.dispatchWork _ _ _ ((State.idleFree_iff _ _).mp hf).2 hw (k.opportunity _ _ _ h)

theorem KeptByActs.lowerCrossing (s : State) (c : CellId) (h : P s) : P (s.lowerCrossing c) :=
  k.settleCell _ _ _ .lower h

theorem KeptByActs.takeArrival (interval : ∀ s, P s → P s.intervalTick)
    (timer : ∀ s, P s → P s.scanTimerExpiry) (edge : ∀ s, P s → P s.trigEdge)
    (s : State) (a : Arrival) (h : P s) : P (s.takeArrival a) :=
  State.takeArrival_keeps interval timer edge k.settleCell k.restExpiry k.attempt s a h

theorem KeptByActs.abortJob (s : State) (c : CellId) (j : Job) (st : RecordStatus)
    (hj : s.job c = some j) (h : P s) : P (s.abortJob c j st) := by
  unfold State.abortJob
  dsimp only
  split
  · exact k.ended _ _ _ _ _ (by simpa using hj) (k.released _ h)
  · exact k.ended _ _ _ _ _ hj h

/-- CELL_DISABLE, from what the property needs of the scan sequencer and of the reference cache. -/
theorem KeptByActs.cellDisable (removeDue : ∀ s c, P s → P (s.removeDue c))
    (invalidate : ∀ s c, P s → P (s.invalidateCell c))
    (check : ∀ s, P s → P s.completionCheck) (s : State) (h : P s) : P (cellDisable s).state := by
  unfold Machine.cellDisable
  split
  · exact h
  · rename_i c _
    refine check _ (invalidate _ _ ?_)
    have hd := removeDue _ c (k.opportunity _ c false (k.disabled s c h))
    split
    · exact hd
    · exact k.abortJob _ _ _ _ ‹_› hd

theorem KeptByActs.cancelJob (s : State) (tag : Byte) (c : CellId) (h : P s) :
    P (s.cancelJob tag c) := by
  unfold State.cancelJob
  split
  · split
    · exact k.abortJob _ _ _ _ (by simpa using ‹_›) (k.aborted _ _ h)
    · exact h
  · exact h

end

end Sys2Proof.Machine
end

section
-- One declaration at a time: the stacks of parallel elaboration do not fit under the memory limit.
set_option Elab.async false
/-!
The stages of R98 (O4): cell by cell, what an event leaves of the cell fits what it leaves of the job.
-/
namespace Sys2Proof.Machine

theorem stagesHold_iff {s : State} :
    StagesHold s ↔ ∀ c, stageLegal (s.cell c) (s.job c) = true := by
  constructor
  · intro h c
    cases c with
    | a => exact h.a
    | b => exact h.b
  · intro h
    exact ⟨h .a, h .b⟩

theorem StagesHold.congr {s t : State} (h : StagesHold s) (cells : ∀ c, t.cell c = s.cell c)
    (jobs : ∀ c, t.job c = s.job c) : StagesHold t := by
  rw [stagesHold_iff] at h ⊢
  intro c
  rw [cells, jobs]
  exact h c

theorem StagesHold.unread (s t : State) (e : SameRegisters s t) (h : StagesHold s) :
    StagesHold t :=
  h.congr (State.cell_eq_of_cells e.cells) (State.job_eq_of_dispatch e.dispatch)

/-- What happens to one cell and its job leaves the other in its stage. -/
theorem StagesHold.of_cell {s t : State} (h : StagesHold s) (c : CellId)
    (otherCell : t.cell c.other = s.cell c.other) (otherJob : t.job c.other = s.job c.other)
    (own : stageLegal (t.cell c) (t.job c) = true) : StagesHold t := by
  rw [stagesHold_iff] at h ⊢
  refine CellId.all_of c own ?_
  rw [otherCell, otherJob]
  exact h c.other

@[simp] theorem stageLegal_reset (l : Level) : stageLegal (Cell.reset l) none = true := rfl

/-- A tick moves both cells by their timers. -/
theorem State.countTick_cell (s : State) (l : Level) (c : CellId) :
    (s.countTick l).cell c = (s.cell c).tick := by
  cases c <;> rfl

/-- A cell that has taken an order converts. -/
theorem Cell.take_converts (k : Cell) (o : Order) :
    (k.take o).state.converting = true ∧ (k.take o).order = some o := by
  unfold Cell.take
  dsimp only
  split <;> exact ⟨rfl, rfl⟩

theorem stageLegal_take (k : Cell) (o : Order) (j : Job) :
    stageLegal (k.take o) (some j) = true := by
  obtain ⟨hs, ho⟩ := k.take_converts o
  simp [stageLegal, hs, ho]

/-- A resting cell without an order fits a job between its orders, and no job. -/
theorem stageLegal_resting {k : Cell} {j : Option Job} (hs : k.state = .resting)
    (ho : k.order = none) (hj : ∀ x, j = some x → x.phase = .main) : stageLegal k j = true := by
  cases j with
  | none => simp [stageLegal, hs, ho, CellState.converting]
  | some x => simp [stageLegal, hs, ho, hj x rfl]

/-- Without a job the cell has no order and does not convert. -/
theorem stageLegal_none_iff {k : Cell} :
    stageLegal k none = true ↔ k.state.converting = false ∧ k.order = none := by
  simp [stageLegal]

/-- A job that does not convert stands between its orders. -/
theorem stageLegal_some_between {k : Cell} {j : Job} (h : stageLegal k (some j) = true)
    (hc : k.state.converting = false) :
    k.state = .resting ∧ k.order = none ∧ j.phase = .main := by
  simpa [stageLegal, hc, and_assoc] using h

theorem StagesHold.settleCell {s : State} (h : StagesHold s) (c : CellId)
    (r : Cell × Option Outcome) {d : Nat} (e : (s.cell c).OwnEvent d r) :
    StagesHold (s.settleCell c r) := by
  refine h.of_cell c (by simp) (by simp) ?_
  obtain ⟨-, he⟩ | ⟨o, order, -, -, he⟩ := s.settleCell_cases c e <;> rw [he]
  · simpa using e.sameStage.stageLegal _ (stagesHold_iff.mp h c)
  · rw [State.deliver_cell_self]
    refine stageLegal_resting rfl rfl fun x hx => ?_
    obtain hn | ⟨j, raw, -, -, hj⟩ := (s.setCell c r.1).deliver_job c order.channel o
    · rw [hn] at hx; cases hx
    · rw [hj] at hx; cases hx; rfl

theorem StagesHold.restExpiry {s : State} (h : StagesHold s) (c : CellId) :
    StagesHold (s.restExpiry c) := by
  refine h.of_cell c (by simp) (by simp) ?_
  obtain he | ⟨-, ⟨hj, he⟩ | ⟨j, hj, he | he⟩⟩ := s.restExpiry_cases c <;> rw [he]
  · exact stagesHold_iff.mp h c
  · simp [hj, stageLegal_none_iff, Cell.endRest, CellState.converting]
  · simpa [hj] using stageLegal_take _ _ _
  · simp [stageLegal_none_iff, Cell.endRest, CellState.converting]

theorem StagesHold.dispatchWork {s : State} (h : StagesHold s) (c : CellId) (w : Work)
    (v : Judgement) (hj : s.job c = none) : StagesHold (s.dispatchWork c w v) := by
  have hc := stagesHold_iff.mp h c
  rw [hj] at hc
  refine h.of_cell c (by simp) (by simp) ?_
  unfold State.dispatchWork
  dsimp only
  split <;> simp [stageLegal_take, hc]

theorem StagesHold.attempt {s : State} (h : StagesHold s) (c : CellId) :
    StagesHold (s.attempt c) := by
  obtain he | he | ⟨w, hf, -, -, he⟩ := s.attempt_cases c <;> rw [he]
  · exact h
  · exact h.congr (by simp) (by simp)
  · exact StagesHold.dispatchWork (h.congr (by simp) (by simp)) c w _
      ((State.idleFree_iff _ _).mp hf).2

theorem StagesHold.cancelJob {s : State} (h : StagesHold s) (tag : Byte) (c : CellId) :
    StagesHold (s.cancelJob tag c) := by
  unfold State.cancelJob
  split
  · rename_i j hj
    split
    · have hc := stagesHold_iff.mp h c
      rw [hj] at hc
      refine h.of_cell c (by simp) (by simp) ?_
      simp only [State.abortJob_reads, State.cell_setCell_self, State.abortJob_job_self,
        stageLegal_none_iff]
      unfold Cell.abort
      split
      · exact ⟨rfl, rfl⟩
      · rename_i hs
        obtain hs := eq_false_of_ne_true hs
        exact ⟨hs, (stageLegal_some_between hc hs).2.1⟩
    · exact h
  · exact h

theorem StagesHold.cellEnable {s : State} (h : StagesHold s) :
    StagesHold (cellEnable s).state := by
  unfold Machine.cellEnable
  split
  · exact h
  · rename_i c _
    have hc := stagesHold_iff.mp h c
    refine h.of_cell c (by simp [Reply.done]) rfl ?_
    simp only [Reply.done, State.cell_setCell_self, State.setCell_job, Cell.enable]
    split
    · cases hj : s.job c <;> simp_all [stageLegal, CellState.converting]
    · exact hc

theorem StagesHold.cellDisable {s : State} (h : StagesHold s) :
    StagesHold (cellDisable s).state := by
  unfold Machine.cellDisable
  split
  · exact h
  · rename_i c _
    simp only [Reply.done, State.disableCell]
    split <;> rename_i hj
    · refine h.of_cell c (by simp) (by simp) ?_
      simp only [State.removeDue_reads, State.job_setOpportunity, State.setCell_job] at hj
      simp [hj, Cell.disable]
    · exact h.of_cell c (by simp) (by simp) (by simp [Cell.disable])

theorem StagesHold.profileWrite {s : State} (h : StagesHold s) :
    StagesHold (profileWrite s).state := by
  have superseded : ∀ (p : Fin 4) (k : Cell) (d : DispatchContext),
      stageLegal k (d.supersede p).job = stageLegal k d.job := by
    intro p k d
    unfold DispatchContext.supersede
    cases d.job with
    | none => rfl
    | some j => simp only [Option.map_some]; split <;> rfl
  rw [stagesHold_iff] at h ⊢
  unfold Machine.profileWrite
  split
  · exact h
  · split
    · exact h
    · intro c
      have hc := h c
      cases c <;> simpa [Reply.done, State.writeProfile, State.cell, State.job, superseded] using hc

/-- No other command moves a cell or a job but by a reset. -/
theorem StagesHold.rules (code : Byte) (s : State) (h : StagesHold s) :
    StagesHold (commandOf code s).state := by
  revert s
  apply commandOf_keeps (Q := fun rule => ∀ s, StagesHold s → StagesHold (rule s).state) code
  case cellEnable => intro s h; exact h.cellEnable
  case cellDisable => intro s h; exact h.cellDisable
  case profileWrite => intro s h; exact h.profileWrite
  case requestCancel =>
    exact requestCancel_keeps StagesHold.unread (fun _ _ _ h => h.congr (fun _ => rfl) fun _ => rfl)
      fun _ tag c h => h.cancelJob tag c
  case softReset => intro s _; exact ⟨rfl, rfl⟩
  case bad => intro _ _ h; exact h
  all_goals intro s h; exact h.congr (by simp) (by simp)

theorem StagesHold.kept : KeptBySteps StagesHold where
  unread := StagesHold.unread
  rules := StagesHold.rules
  deviceReset _ _ := ⟨rfl, rfl⟩
  upperCrossing s c h := by
    refine h.of_cell c (by simp [State.upperCrossing]) (by simp) ?_
    simpa [State.upperCrossing] using
      (s.cell c).upperCrossing_sameStage.stageLegal _ (stagesHold_iff.mp h c)
  lowerCrossing _ c h := h.settleCell c _ .lower
  commitApply _ h := h.congr (by simp) (by simp)
  arrival := State.takeArrival_keeps (fun _ h => h.congr (by simp) (by simp))
    (fun _ h => h.congr (by simp) (by simp)) (fun _ h => h.congr (by simp) (by simp))
    (fun _ c r e h => h.settleCell c r e) (fun _ c h => h.restExpiry c) (fun _ c h => h.attempt c)
  countTick s l h := by
    rw [stagesHold_iff] at h ⊢
    intro c
    rw [State.countTick_cell, s.countTick_reads l |>.1]
    exact h c

/-- Settles O4: every command and every arrival keeps the stages, by the cell and the job that it
moves. -/
theorem stepKeepsStages : Obligations.StepKeepsStages := fun _ _ h hs => StagesHold.kept.step h hs

end Sys2Proof.Machine
end

section
-- One declaration at a time: the stacks of parallel elaboration do not fit under the memory limit.
set_option Elab.async false
/-!
The result slots (O5): the reserved count is what the jobs hold, through appends, releases, claims and
the outcomes of jobs. With the stages of R98, a job that rests holds one slot.
-/
namespace Sys2Proof.Machine

/-- The slots that a job context holds. -/
def slotsOf (j : Option Job) : Nat :=
  match j with
  | none => 0
  | some j => j.slots

theorem State.slotsHeld_eq (s : State) (c : CellId) : s.slotsHeld c = slotsOf (s.job c) := rfl

theorem slotsAccounted_iff {s : State} (c : CellId) :
    SlotsAccounted s ↔ s.results.records.length + s.results.reserved ≤ 32 ∧
      s.results.reserved = slotsOf (s.job c) + slotsOf (s.job c.other) ∧
      ∀ d, (s.job d).all Job.slotsLegal = true := by
  constructor
  · rintro ⟨fits, held, legalA, legalB⟩
    refine ⟨fits, ?_, fun d => ?_⟩
    · rw [held]
      cases c with
      | a => rfl
      | b => exact Nat.add_comm ..
    · cases d with
      | a => exact legalA
      | b => exact legalB
  · rintro ⟨fits, held, legal⟩
    refine ⟨fits, ?_, legal .a, legal .b⟩
    rw [held]
    cases c with
    | a => rfl
    | b => exact Nat.add_comm ..

/-- A job before its reference outcome holds one slot or two; any other holds one. -/
theorem Job.slotsLegal_iff {j : Job} :
    j.slotsLegal = true ↔ j.slots = 1 ∨ (j.slots = 2 ∧ j.phase = .reference) := by
  simp [Job.slotsLegal]

theorem Job.slots_of_main {j : Job} (h : j.slotsLegal = true) (hp : j.phase = .main) :
    j.slots = 1 := by
  obtain h | ⟨-, hr⟩ := Job.slotsLegal_iff.mp h
  · exact h
  · rw [hp] at hr; cases hr

theorem SlotsAccounted.congr {s t : State} (h : SlotsAccounted s)
    (records : t.results.records.length = s.results.records.length)
    (reserved : t.results.reserved = s.results.reserved) (jobs : ∀ c, t.job c = s.job c) :
    SlotsAccounted t := by
  rw [slotsAccounted_iff .a] at h ⊢
  simpa only [records, reserved, jobs] using h

theorem SlotsAccounted.unread (s t : State) (e : SameRegisters s t) (h : SlotsAccounted s) :
    SlotsAccounted t :=
  h.congr (by rw [e.results]) (by rw [e.results]) (State.job_eq_of_dispatch e.dispatch)

/-- Records that leave free their places. -/
theorem SlotsAccounted.fewer {s t : State} (h : SlotsAccounted s)
    (records : t.results.records.length ≤ s.results.records.length)
    (reserved : t.results.reserved = s.results.reserved) (jobs : ∀ c, t.job c = s.job c) :
    SlotsAccounted t := by
  rw [slotsAccounted_iff .a] at h ⊢
  obtain ⟨fits, held, legal⟩ := h
  simp only [reserved, jobs]
  exact ⟨by omega, held, legal⟩

/-- What happens to one cell's job, with the slots it holds moving the reserved count and `n` records
appended into slots that leave it. -/
theorem SlotsAccounted.of_cell {s t : State} (h : SlotsAccounted s) (c : CellId) (n m : Nat)
    (otherJob : t.job c.other = s.job c.other)
    (records : t.results.records.length = s.results.records.length + n)
    (reserved : t.results.reserved = s.results.reserved - m) (enough : n ≤ m)
    (held : slotsOf (s.job c) = slotsOf (t.job c) + m)
    (legal : (t.job c).all Job.slotsLegal = true) : SlotsAccounted t := by
  rw [slotsAccounted_iff c] at h ⊢
  obtain ⟨fits, sum, legals⟩ := h
  rw [records, reserved, otherJob]
  refine ⟨by omega, by omega, CellId.all_of c legal ?_⟩
  rw [otherJob]
  exact legals _

/-- The record that ends a job takes one slot. -/
theorem State.finishJob_slots (s : State) (c : CellId) (j : Job) (r : Record) :
    (s.finishJob c j r).results.records.length = s.results.records.length + 1 ∧
      (s.finishJob c j r).results.reserved = s.results.reserved - 1 := by
  obtain ⟨w, hr, -⟩ := s.finishJob_results c j r
  simp [hr]

/-- A job that holds one slot ends in one record. -/
theorem SlotsAccounted.finishJob {s t : State} (h : SlotsAccounted s) {c : CellId} {j : Job}
    (hj : s.job c = some j) (one : j.slots = 1) (r : Record)
    (results : t.results = s.results) (jobs : ∀ d, t.job d = s.job d) :
    SlotsAccounted (t.finishJob c j r) := by
  obtain ⟨hl, hr⟩ := t.finishJob_slots c j r
  rw [results] at hl hr
  exact h.of_cell c 1 1 (by simp [jobs]) hl hr le_rfl (by simp [hj, slotsOf, one]) (by simp)

/-- The slots that a reference report takes. -/
theorem State.reportReference_slots (s : State) (c : CellId) (j : Job) (o : Outcome) :
    (s.reportReference c j o).results.records.length =
        s.results.records.length + (if j.slots = 2 then 1 else 0) ∧
      (s.reportReference c j o).results.reserved =
        s.results.reserved - (if j.slots = 2 then 1 else 0) := by
  unfold State.reportReference
  split <;> simp

/-- The outcome of a held job, after the report: one slot is left. -/
theorem Job.slots_of_reference {j : Job} (h : j.slotsLegal = true) :
    j.slots = 1 + (if j.slots = 2 then 1 else 0) := by
  obtain h | ⟨h, -⟩ := Job.slotsLegal_iff.mp h <;> simp [h]

theorem SlotsAccounted.legal {s : State} (h : SlotsAccounted s) {c : CellId} {j : Job}
    (hj : s.job c = some j) : j.slotsLegal = true := by
  have := ((slotsAccounted_iff c).mp h).2.2 c
  rw [hj] at this
  exact this

theorem SlotsAccounted.referencePassed {s t : State} (h : SlotsAccounted s) {c : CellId} {j : Job}
    (hj : s.job c = some j) (o : Outcome) (raw : Nat)
    (results : t.results = s.results) (jobs : ∀ d, t.job d = s.job d) :
    SlotsAccounted (t.referencePassed c j o raw) := by
  obtain ⟨hl, hr⟩ := (t.offerReference c j o 1).reportReference_slots c j o
  simp only [State.offerReference_frame, results] at hl hr
  refine h.of_cell c _ _ (by simp [State.referencePassed, jobs]) hl hr le_rfl ?_ ?_
  · simpa [State.referencePassed, slotsOf, hj] using Job.slots_of_reference (h.legal hj)
  · simp [State.referencePassed, Job.slotsLegal]

theorem SlotsAccounted.referenceFailed {s t : State} (h : SlotsAccounted s) {c : CellId} {j : Job}
    (hj : s.job c = some j) (o : Outcome)
    (results : t.results = s.results) (jobs : ∀ d, t.job d = s.job d) :
    SlotsAccounted (t.referenceFailed c j o) := by
  obtain ⟨hl, hr⟩ := (t.offerReference c j o 1).reportReference_slots c j o
  simp only [State.offerReference_frame, results] at hl hr
  have ends := ((t.offerReference c j o 1).reportReference c j o).finishJob_slots c j
    (j.endRecord .refFailed ((t.offerReference c j o 1).reportReference c j o).timebase.counter)
  rw [hl, hr] at ends
  refine h.of_cell c ((if j.slots = 2 then 1 else 0) + 1) ((if j.slots = 2 then 1 else 0) + 1)
    (by simp [State.referenceFailed, jobs]) ends.1 (ends.2.trans (Nat.sub_sub ..)) le_rfl ?_ ?_
  · have := Job.slots_of_reference (h.legal hj)
    simp only [State.referenceFailed, State.finishJob_job_self, hj, slotsOf]
    omega
  · simp [State.referenceFailed]

theorem SlotsAccounted.deliver {s : State} (h : SlotsAccounted s) (c : CellId) (ch : Fin 10)
    (o : Outcome) : SlotsAccounted (s.deliver c ch o) := by
  unfold State.deliver
  dsimp only
  split
  · exact h.congr (by simp) (by simp) (by simp)
  · rename_i j hj
    have hj : s.job c = some j := by simpa using hj
    split <;> rename_i hp
    · split
      · exact h.referencePassed hj _ _ (by simp) (by simp)
      · exact h.referenceFailed hj _ (by simp) (by simp)
    · have one := Job.slots_of_main (h.legal hj) hp
      unfold State.mainCompleted
      dsimp only
      split <;> exact h.finishJob hj one _ (by simp) (by simp)

theorem SlotsAccounted.settleCell {s : State} (h : SlotsAccounted s) (c : CellId)
    (r : Cell × Option Outcome) {d : Nat} (e : (s.cell c).OwnEvent d r) :
    SlotsAccounted (s.settleCell c r) := by
  have hm : SlotsAccounted (s.setCell c r.1) := h.congr rfl rfl (by simp)
  obtain ⟨-, he⟩ | ⟨o, order, -, -, he⟩ := s.settleCell_cases c e <;> rw [he]
  · exact hm
  · exact hm.deliver c _ o

theorem SlotsAccounted.offer {s : State} (h : SlotsAccounted s) (c : CellId) :
    SlotsAccounted (s.offer c) := h.congr (by simp) (by simp) (by simp)

theorem SlotsAccounted.completeAtDispatch {s t : State} (h : SlotsAccounted s) {c : CellId}
    {j : Job} (hj : s.job c = some j) (one : j.slots = 1) (st : RecordStatus)
    (results : t.results = s.results) (jobs : ∀ d, t.job d = s.job d) :
    SlotsAccounted (t.completeAtDispatch c j st) := by
  have hf := h.finishJob hj one (j.endRecord st t.timebase.counter) results jobs
  exact hf.offer c

/-- A rest that ends finds a job of one slot, by its stage. -/
theorem SlotsAccounted.restExpiry {s : State} (st : StagesHold s) (h : SlotsAccounted s)
    (c : CellId) : SlotsAccounted (s.restExpiry c) := by
  obtain he | ⟨hd, ⟨-, he⟩ | ⟨j, hj, he | he⟩⟩ := s.restExpiry_cases c <;> rw [he]
  · exact h
  · have hu : SlotsAccounted (s.setCell c (s.cell c).endRest) := h.congr rfl rfl (by simp)
    exact hu.offer c
  · exact h.congr (by simp [State.giveOrder]) (by simp [State.giveOrder]) (by simp)
  · have hs : (s.cell c).state = .resting := by
      simp only [Cell.restDue, Bool.and_eq_true, decide_eq_true_eq] at hd
      exact hd.1
    have hl := stagesHold_iff.mp st c
    rw [hj] at hl
    have hp := (stageLegal_some_between hl (by rw [hs]; rfl)).2.2
    exact h.completeAtDispatch hj (Job.slots_of_main (h.legal hj) hp) _ rfl (by simp)

theorem Judgement.slots_le (v : Judgement) : 1 ≤ v.slots ∧ v.slots ≤ 2 := by
  unfold Judgement.slots
  split <;> decide

theorem State.jobOf_slotsLegal (s : State) (c : CellId) (w : Work) (v : Judgement) :
    (s.jobOf c w v).slotsLegal = true := by
  rw [Job.slotsLegal_iff]
  cases v with
  | held b => cases b <;> simp [State.jobOf, Judgement.slots]
  | _ => simp [State.jobOf, Judgement.slots]

/-- A granted claim: the slots are reserved and the job holds them (R102, R141). -/
theorem SlotsAccounted.claimed {s : State} (h : SlotsAccounted s) (c : CellId) (w : Work)
    (v : Judgement) (hj : s.job c = none) (granted : v.slots ≤ s.freeSlots) :
    SlotsAccounted (((s.reserve v.slots).withdraw c w).setJob c (some (s.jobOf c w v))) := by
  have hs := v.slots_le
  rw [slotsAccounted_iff c] at h ⊢
  obtain ⟨fits, sum, legals⟩ := h
  simp only [State.freeSlots, Config.resultPlaces] at granted
  simp only [State.setJob_results, State.withdraw_frame, State.reserve_results,
    State.job_setJob_self, State.job_setJob_other, State.withdraw_reads, State.reserve_job]
  simp only [hj, slotsOf] at sum
  refine ⟨by omega, ?_, CellId.all_of c ?_ ?_⟩
  · simp only [slotsOf, State.jobOf] at sum ⊢
    omega
  · simpa using s.jobOf_slotsLegal c w v
  · simpa using legals c.other

theorem SlotsAccounted.dispatchWork {s : State} (h : SlotsAccounted s) (c : CellId) (w : Work)
    (v : Judgement) (hj : s.job c = none) (granted : v.slots ≤ s.freeSlots) :
    SlotsAccounted (s.dispatchWork c w v) := by
  have hc := h.claimed c w v hj granted
  unfold State.dispatchWork
  dsimp only
  split
  · exact hc.completeAtDispatch (State.job_setJob_self ..) rfl _ rfl fun _ => rfl
  · exact hc.completeAtDispatch (State.job_setJob_self ..) rfl _ rfl fun _ => rfl
  · exact hc.congr rfl rfl (by simp)
  · exact hc.congr (by simp [State.giveOrder]) (by simp [State.giveOrder]) (by simp)
  · exact hc.congr rfl rfl (by simp)

theorem SlotsAccounted.attempt {s : State} (h : SlotsAccounted s) (c : CellId) :
    SlotsAccounted (s.attempt c) := by
  obtain he | he | ⟨w, hf, -, granted, he⟩ := s.attempt_cases c <;> rw [he]
  · exact h
  · exact h.congr rfl rfl (by simp)
  · have hu : SlotsAccounted (s.setOpportunity c false) := h.congr rfl rfl (by simp)
    exact hu.dispatchWork c w _ ((State.idleFree_iff _ _).mp hf).2 granted

/-- An abort releases an unused report reservation first (R143). -/
theorem SlotsAccounted.abortJob {s : State} (h : SlotsAccounted s) (c : CellId) (j : Job)
    (st : RecordStatus) (hj : s.job c = some j) : SlotsAccounted (s.abortJob c j st) := by
  have hs := Job.slots_of_reference (h.legal hj)
  unfold State.abortJob
  dsimp only
  split
  · rename_i two
    have ends := s.release.finishJob_slots c j (j.endRecord st s.release.timebase.counter)
    have hr : s.release.results.reserved = s.results.reserved - 1 := by simp [State.release]
    simp only [State.release_frame, hr] at ends
    exact h.of_cell c 1 2 (by simp) (by simpa using ends.1) (by simpa [Nat.sub_sub] using ends.2)
      (by decide) (by simp [hj, slotsOf, two]) (by simp)
  · rename_i two
    exact h.finishJob hj (by simpa [two] using hs) _ rfl fun _ => rfl

theorem SlotsAccounted.cancelJob {s : State} (h : SlotsAccounted s) (tag : Byte) (c : CellId) :
    SlotsAccounted (s.cancelJob tag c) := by
  unfold State.cancelJob
  split
  · split
    · have hu : SlotsAccounted (s.setCell c (s.cell c).abort) := h.congr rfl rfl (by simp)
      exact hu.abortJob _ _ _ (by simpa using ‹_›)
    · exact h
  · exact h

theorem SlotsAccounted.cellDisable {s : State} (h : SlotsAccounted s) :
    SlotsAccounted (cellDisable s).state := by
  unfold Machine.cellDisable
  split
  · exact h
  · rename_i c _
    simp only [Reply.done, State.disableCell]
    split
    · exact h.congr (by simp) (by simp) (by simp)
    · rename_i j hj
      have ha : SlotsAccounted ((((s.setCell c (s.cell c).disable).setOpportunity c false).removeDue
          c).abortJob c j .aborted) :=
        SlotsAccounted.abortJob (h.congr (by simp) (by simp) (by simp)) _ _ _ hj
      exact ha.congr (by simp) (by simp) (by simp)

theorem slotsOf_supersede (p : Fin 4) (d : DispatchContext) :
    slotsOf (d.supersede p).job = slotsOf d.job ∧
      (d.supersede p).job.all Job.slotsLegal = d.job.all Job.slotsLegal := by
  unfold DispatchContext.supersede
  cases d.job with
  | none => exact ⟨rfl, rfl⟩
  | some j => simp only [Option.map_some]; split <;> exact ⟨rfl, rfl⟩

theorem SlotsAccounted.profileWrite {s : State} (h : SlotsAccounted s) :
    SlotsAccounted (profileWrite s).state := by
  unfold Machine.profileWrite
  split
  · exact h
  · split
    · exact h
    · obtain ⟨fits, held, legalA, legalB⟩ := h
      refine ⟨by simpa [Reply.done, State.writeProfile] using fits, ?_, ?_, ?_⟩
      all_goals simp only [Reply.done, State.writeProfile, State.slotsHeld_eq,
        State.invalidateProfile_frame, State.job, PerCell.get,
        slotsOf_supersede]
      · exact held
      · exact legalA
      · exact legalB

theorem SlotsAccounted.rules (code : Byte) (s : State) (h : SlotsAccounted s) :
    SlotsAccounted (commandOf code s).state := by
  revert s
  apply commandOf_keeps (Q := fun rule => ∀ s, SlotsAccounted s → SlotsAccounted (rule s).state)
  case cellDisable => intro s h; exact h.cellDisable
  case profileWrite => intro s h; exact h.profileWrite
  case requestCancel =>
    exact requestCancel_keeps SlotsAccounted.unread (fun _ _ _ h => h.congr rfl rfl fun _ => rfl)
      fun _ tag c h => h.cancelJob tag c
  case resultPop =>
    intro s h
    unfold Machine.resultPop
    split
    · exact h
    · rename_i head tail hr
      exact h.fewer (by simp [Reply.done, hr]) (by simp [Reply.done])
        fun d => by rw [Reply.done, State.offerBoth_keeps_job]; rfl
  case resultFlush =>
    intro s h
    unfold Machine.resultFlush
    simp only [Reply.done]
    split
    · exact h.fewer (by simp) rfl fun _ => rfl
    · exact h.fewer (by simp) (by simp) fun d => by rw [State.offerBoth_keeps_job]; rfl
  case softReset => intro s _; exact ⟨Nat.zero_le _, rfl, rfl, rfl⟩
  case bad => intro _ _ h; exact h
  all_goals intro s h; exact h.congr (by simp) (by simp) (by simp)

/-- The slots, with the stages they lean on. -/
theorem SlotsAccounted.kept : KeptBySteps fun s => StagesHold s ∧ SlotsAccounted s where
  unread s t e h := ⟨h.1.unread s t e, h.2.unread s t e⟩
  rules code s h := ⟨h.1.rules code s, h.2.rules code s⟩
  deviceReset s h := ⟨StagesHold.kept.deviceReset s h.1, Nat.zero_le _, rfl, rfl, rfl⟩
  upperCrossing s c h := ⟨StagesHold.kept.upperCrossing s c h.1, h.2.congr rfl rfl (by simp)⟩
  lowerCrossing s c h := ⟨h.1.settleCell c _ .lower, h.2.settleCell c _ .lower⟩
  commitApply s h := ⟨StagesHold.kept.commitApply s h.1, h.2.congr (by simp) (by simp) (by simp)⟩
  arrival s a h := ⟨StagesHold.kept.arrival s a h.1,
    (State.takeArrival_keeps (P := fun s => StagesHold s ∧ SlotsAccounted s)
      (fun s h => ⟨StagesHold.kept.arrival s .intervalTick h.1,
        h.2.congr (by simp) (by simp) (by simp)⟩)
      (fun s h => ⟨StagesHold.kept.arrival s .scanTimerExpiry h.1,
        h.2.congr (by simp) (by simp) (by simp)⟩)
      (fun s h => ⟨StagesHold.kept.arrival s .trigEdge h.1,
        h.2.congr (by simp) (by simp) (by simp)⟩)
      (fun _ c r e h => ⟨h.1.settleCell c r e, h.2.settleCell c r e⟩)
      (fun _ c h => ⟨h.1.restExpiry c, h.2.restExpiry h.1 c⟩)
      (fun _ c h => ⟨h.1.attempt c, h.2.attempt c⟩) s a h).2⟩
  countTick s l h := ⟨StagesHold.kept.countTick s l h.1, h.2.congr rfl rfl fun _ => rfl⟩

/-- Settles O5: every command and every arrival keeps the stages and the accounting together. -/
theorem stepKeepsSlotsAccounted : Obligations.StepKeepsSlotsAccounted :=
  fun _ _ stages h hs => (SlotsAccounted.kept.step ⟨stages, h⟩ hs).2

end Sys2Proof.Machine
end

section
-- One declaration at a time: the stacks of parallel elaboration do not fit under the memory limit.
set_option Elab.async false
/-!
The sequence numbers (O6): an append carries on the count, and a record that leaves is the oldest.
-/
namespace Sys2Proof.Machine

/-- From head to tail the records carry the numbers that end before `next`. -/
def Consecutive (records : List Record) (next : BitVec 16) : Prop :=
  ∀ i (h : i < records.length),
    (records[i]).sequence = next - BitVec.ofNat 16 (records.length - i)

theorem sequencesFollow_iff {s : State} :
    SequencesFollow s ↔ Consecutive s.results.records s.results.nextSequence := Iff.rfl

theorem Consecutive.append {l : List Record} {n : BitVec 16} (h : Consecutive l n) (r : Record) :
    Consecutive (l ++ [{ r with sequence := n }]) (n + 1) := by
  intro i hi
  rw [List.length_append, List.length_singleton] at hi
  obtain hlt | rfl := Nat.lt_succ_iff_lt_or_eq.mp hi
  · have one_more : l.length + 1 - i = l.length - i + 1 := by omega
    rw [List.getElem_append_left hlt, h i hlt, List.length_append, List.length_singleton, one_more,
      BitVec.ofNat_add]
    exact (add_sub_add_right_eq_sub _ _ _).symm
  · simp [List.getElem_append_right]

theorem Consecutive.tail {r : Record} {l : List Record} {n : BitVec 16}
    (h : Consecutive (r :: l) n) : Consecutive l n := by
  intro i hi
  have hr := h (i + 1) (Nat.succ_lt_succ hi)
  rwa [List.getElem_cons_succ, List.length_cons, Nat.add_sub_add_right] at hr

theorem Consecutive.nil (n : BitVec 16) : Consecutive [] n :=
  fun i hi => absurd hi (Nat.not_lt_zero i)

theorem SequencesFollow.congr {s t : State} (h : SequencesFollow s)
    (records : t.results.records = s.results.records)
    (next : t.results.nextSequence = s.results.nextSequence) : SequencesFollow t := by
  rw [sequencesFollow_iff] at h ⊢
  rwa [records, next]

theorem SequencesFollow.append {s t : State} (h : SequencesFollow s) (r : Record)
    (results : t.results = (s.append r).results) : SequencesFollow t := by
  rw [sequencesFollow_iff] at h ⊢
  rw [results, State.append_results]
  exact h.append r

theorem SequencesFollow.finishJob {s : State} (h : SequencesFollow s) (c : CellId) (j : Job)
    (r : Record) : SequencesFollow (s.finishJob c j r) := by
  obtain ⟨w, hr, -⟩ := s.finishJob_results c j r
  exact h.append _ hr

theorem SequencesFollow.unread (s t : State) (e : SameRegisters s t) (h : SequencesFollow s) :
    SequencesFollow t := h.congr (by rw [e.results]) (by rw [e.results])

theorem SequencesFollow.acts : KeptByActs SequencesFollow fun _ => True where
  moved _ _ _ _ _ h := h.congr rfl rfl
  delivered _ _ _ _ _ _ h := ⟨h.congr rfl rfl, trivial⟩
  aborted _ _ h := h.congr rfl rfl
  disabled _ _ h := h.congr rfl rfl
  restEnded _ _ _ h := h.congr rfl rfl
  ordered _ _ _ _ _ _ h := h.congr rfl rfl
  opportunity _ _ _ h := h.congr rfl rfl
  health _ _ _ _ h := h.congr (by simp) (by simp)
  offered _ _ _ _ _ _ _ h := h.congr (by simp) (by simp)
  reported _ _ _ _ _ _ _ h := h.append _ rfl
  paired _ _ _ _ _ _ _ h := h.congr rfl rfl
  completed _ c j _ _ _ _ h := h.finishJob c j _
  ended _ c j _ _ _ h := h.finishJob c j _
  released _ h := h.congr (by simp) (by simp)
  claimed _ _ _ _ _ h := h.congr (by simp) (by simp)
  spent _ _ _ h := h.congr (by simp) (by simp)

theorem SequencesFollow.rules (code : Byte) (s : State) (h : SequencesFollow s) :
    SequencesFollow (commandOf code s).state := by
  revert s
  apply commandOf_keeps (Q := fun rule => ∀ s, SequencesFollow s → SequencesFollow (rule s).state)
  case cellDisable =>
    exact SequencesFollow.acts.cellDisable (fun _ _ h => h.congr rfl rfl)
      (fun _ _ h => h.congr rfl rfl) fun _ h => h.congr (by simp) (by simp)
  case requestCancel =>
    exact requestCancel_keeps SequencesFollow.unread (fun _ _ _ h => h.congr rfl rfl)
      SequencesFollow.acts.cancelJob
  case resultPop =>
    intro s h
    unfold Machine.resultPop
    split
    · exact h
    · rename_i head tail hr
      rw [sequencesFollow_iff] at h ⊢
      rw [hr] at h
      simpa [Reply.done] using h.tail
  case resultFlush =>
    intro s h
    unfold Machine.resultFlush
    simp only [Reply.done, sequencesFollow_iff]
    split <;> simpa using Consecutive.nil _
  case softReset => intro s _; exact Consecutive.nil _
  case bad => intro _ _ h; exact h
  all_goals intro s h; exact h.congr (by simp) (by simp)

theorem SequencesFollow.kept : KeptBySteps SequencesFollow where
  unread := SequencesFollow.unread
  rules := SequencesFollow.rules
  deviceReset _ _ := Consecutive.nil _
  upperCrossing _ _ h := h.congr rfl rfl
  lowerCrossing := SequencesFollow.acts.lowerCrossing
  commitApply _ h := h.congr (by simp) (by simp)
  arrival := SequencesFollow.acts.takeArrival (fun _ h => h.congr (by simp) (by simp))
    (fun _ h => h.congr (by simp) (by simp)) fun _ h => h.congr (by simp) (by simp)
  countTick _ _ h := h.congr rfl rfl

/-- Settles O6: only appends, RESULT_POP, RESULT_FLUSH and the resets move the records or the next
number. -/
theorem stepKeepsSequences : Obligations.StepKeepsSequences :=
  fun _ _ h hs => SequencesFollow.kept.step h hs

end Sys2Proof.Machine
end

section
-- One declaration at a time: the stacks of parallel elaboration do not fit under the memory limit.
set_option Elab.async false
/-!
The timers and counts of a cell (O11): for each state which timers run, and what each event of the cell
leaves of them.
-/
namespace Sys2Proof.Machine

/-- Exactly the timers of its state run, and the counts fit the order. -/
structure Cell.Timed (k : Cell) : Prop where
  timers : k.timersLegal = true
  counts : k.countsLegal = true

theorem cellsTimed_iff {s : State} : CellsTimed s ↔ ∀ c, (s.cell c).Timed :=
  ⟨fun h c => ⟨h.timers c, h.counts c⟩, fun h => ⟨fun c => (h c).timers, fun c => (h c).counts⟩⟩

/-! ### The timers of each state -/

section
variable {k : Cell}

theorem Cell.timersLegal_down (h : k.state = .down) : k.timersLegal = true ↔
    k.order = none ∧ k.phaseTimer = .stopped ∧ k.stallTimer = none := by
  unfold Cell.timersLegal
  rw [h]
  split <;> simp_all

theorem Cell.timersLegal_resting (h : k.state = .resting) : k.timersLegal = true ↔
    k.order = none ∧ (∃ n ≤ 32, k.phaseTimer = .down n) ∧ k.stallTimer = none := by
  unfold Cell.timersLegal
  rw [h]
  split <;> simp_all

theorem Cell.timersLegal_idle (h : k.state = .idle) : k.timersLegal = true ↔
    k.order = none ∧ k.phaseTimer = .stopped ∧ k.stallTimer = none := by
  unfold Cell.timersLegal
  rw [h]
  split <;> simp_all

theorem Cell.timersLegal_starting (h : k.state = .starting) : k.timersLegal = true ↔
    (∃ o, k.order = some o ∧ o.method ≠ .slope) ∧ k.phaseTimer = .stopped ∧
      (∃ n, k.stallTimer = some n) ∧ k.crossings = 0 := by
  unfold Cell.timersLegal
  rw [h]
  split <;> simp_all

theorem Cell.timersLegal_measuring (h : k.state = .measuring) : k.timersLegal = true ↔
    (∃ o, k.order = some o ∧ (o.method = .count ∧ (∀ n, k.phaseTimer ≠ .up n) ∨
      o.method = .period ∧ ∃ n, k.phaseTimer = .up n)) ∧ ∃ n, k.stallTimer = some n := by
  unfold Cell.timersLegal
  rw [h]
  split <;> simp_all
  cases ho : k.order <;> cases hp : k.phaseTimer <;> cases hs : k.stallTimer <;> simp_all

theorem Cell.timersLegal_precharging (h : k.state = .precharging) : k.timersLegal = true ↔
    (∃ o, k.order = some o ∧ o.method = .slope) ∧ (∃ n, k.phaseTimer = .down n) ∧
      k.stallTimer = none := by
  unfold Cell.timersLegal
  rw [h]
  split <;> simp_all

theorem Cell.timersLegal_discharging (h : k.state = .discharging) : k.timersLegal = true ↔
    (∃ o, k.order = some o ∧ o.method = .slope) ∧ (∃ n, k.phaseTimer = .up n) ∧
      ∃ n, k.stallTimer = some n := by
  unfold Cell.timersLegal
  rw [h]
  split <;> simp_all

end

/-- Without an order no order's counts stand; with one, fewer than M samples are done. -/
theorem Cell.countsLegal_some {k : Cell} {o : Order} (h : k.order = some o) :
    k.countsLegal = true ↔ k.samplesDone < o.m.toNat := by
  simp [Cell.countsLegal, h]

theorem Cell.countsLegal_none {k : Cell} (h : k.order = none) :
    k.countsLegal = true ↔ k.crossings = 0 ∧ k.accumulator = 0 ∧ k.samplesDone = 0 := by
  simp [Cell.countsLegal, h]

theorem Averaging.toNat_pos (m : Averaging) : 0 < m.toNat := by
  cases m <;> decide

/-! ### Cells in each state -/

section
variable {k : Cell} {o : Order}

/-- Without an order the counts are 0. -/
theorem Cell.Timed.of_idle (hs : k.state = .idle) (ho : k.order = none)
    (hp : k.phaseTimer = .stopped) (ht : k.stallTimer = none) (hc : k.countsLegal = true) :
    k.Timed := ⟨(Cell.timersLegal_idle hs).mpr ⟨ho, hp, ht⟩, hc⟩

theorem Cell.Timed.of_down (hs : k.state = .down) (ho : k.order = none)
    (hp : k.phaseTimer = .stopped) (ht : k.stallTimer = none) (hc : k.countsLegal = true) :
    k.Timed := ⟨(Cell.timersLegal_down hs).mpr ⟨ho, hp, ht⟩, hc⟩

theorem Cell.Timed.of_resting {n : Nat} (hs : k.state = .resting) (ho : k.order = none)
    (hp : k.phaseTimer = .down n) (hn : n ≤ 32) (ht : k.stallTimer = none)
    (hc : k.countsLegal = true) : k.Timed :=
  ⟨(Cell.timersLegal_resting hs).mpr ⟨ho, ⟨n, hn, hp⟩, ht⟩, hc⟩

theorem Cell.Timed.of_starting {n : Nat} (hs : k.state = .starting) (ho : k.order = some o)
    (hm : o.method ≠ .slope) (hp : k.phaseTimer = .stopped) (ht : k.stallTimer = some n)
    (hc : k.crossings = 0) (hd : k.samplesDone < o.m.toNat) : k.Timed :=
  ⟨(Cell.timersLegal_starting hs).mpr ⟨⟨o, ho, hm⟩, hp, ⟨n, ht⟩, hc⟩,
    (Cell.countsLegal_some ho).mpr hd⟩

theorem Cell.Timed.of_counting {n : Nat} (hs : k.state = .measuring) (ho : k.order = some o)
    (hm : o.method = .count) (hp : ∀ i, k.phaseTimer ≠ .up i) (ht : k.stallTimer = some n)
    (hd : k.samplesDone < o.m.toNat) : k.Timed :=
  ⟨(Cell.timersLegal_measuring hs).mpr ⟨⟨o, ho, .inl ⟨hm, hp⟩⟩, n, ht⟩,
    (Cell.countsLegal_some ho).mpr hd⟩

theorem Cell.Timed.of_timing {n i : Nat} (hs : k.state = .measuring) (ho : k.order = some o)
    (hm : o.method = .period) (hp : k.phaseTimer = .up i) (ht : k.stallTimer = some n)
    (hd : k.samplesDone < o.m.toNat) : k.Timed :=
  ⟨(Cell.timersLegal_measuring hs).mpr ⟨⟨o, ho, .inr ⟨hm, i, hp⟩⟩, n, ht⟩,
    (Cell.countsLegal_some ho).mpr hd⟩

theorem Cell.Timed.of_precharging {i : Nat} (hs : k.state = .precharging) (ho : k.order = some o)
    (hm : o.method = .slope) (hp : k.phaseTimer = .down i) (ht : k.stallTimer = none)
    (hd : k.samplesDone < o.m.toNat) : k.Timed :=
  ⟨(Cell.timersLegal_precharging hs).mpr ⟨⟨o, ho, hm⟩, ⟨i, hp⟩, ht⟩,
    (Cell.countsLegal_some ho).mpr hd⟩

theorem Cell.Timed.of_discharging {n i : Nat} (hs : k.state = .discharging)
    (ho : k.order = some o) (hm : o.method = .slope) (hp : k.phaseTimer = .up i)
    (ht : k.stallTimer = some n) (hd : k.samplesDone < o.m.toNat) : k.Timed :=
  ⟨(Cell.timersLegal_discharging hs).mpr ⟨⟨o, ho, hm⟩, ⟨i, hp⟩, n, ht⟩,
    (Cell.countsLegal_some ho).mpr hd⟩

/-! ### What a cell in its order holds -/

theorem Cell.Timed.starting (h : k.Timed) (hs : k.state = .starting) (ho : k.order = some o) :
    o.method ≠ .slope ∧ k.phaseTimer = .stopped ∧ (∃ n, k.stallTimer = some n) ∧
      k.crossings = 0 ∧ k.samplesDone < o.m.toNat := by
  obtain ⟨⟨o', ho', hm⟩, hp, ht, hc⟩ := (Cell.timersLegal_starting hs).mp h.timers
  obtain rfl : o' = o := Option.some.inj (ho'.symm.trans ho)
  exact ⟨hm, hp, ht, hc, (Cell.countsLegal_some ho).mp h.counts⟩

theorem Cell.Timed.measuring (h : k.Timed) (hs : k.state = .measuring) (ho : k.order = some o) :
    (o.method = .count ∧ (∀ n, k.phaseTimer ≠ .up n) ∨
      o.method = .period ∧ ∃ n, k.phaseTimer = .up n) ∧ (∃ n, k.stallTimer = some n) ∧
      k.samplesDone < o.m.toNat := by
  obtain ⟨⟨o', ho', hm⟩, ht⟩ := (Cell.timersLegal_measuring hs).mp h.timers
  obtain rfl : o' = o := Option.some.inj (ho'.symm.trans ho)
  exact ⟨hm, ht, (Cell.countsLegal_some ho).mp h.counts⟩

theorem Cell.Timed.precharging (h : k.Timed) (hs : k.state = .precharging)
    (ho : k.order = some o) : o.method = .slope ∧ k.samplesDone < o.m.toNat := by
  obtain ⟨⟨o', ho', hm⟩, -⟩ := (Cell.timersLegal_precharging hs).mp h.timers
  obtain rfl : o' = o := Option.some.inj (ho'.symm.trans ho)
  exact ⟨hm, (Cell.countsLegal_some ho).mp h.counts⟩

theorem Cell.Timed.discharging (h : k.Timed) (hs : k.state = .discharging)
    (ho : k.order = some o) : o.method = .slope ∧ k.samplesDone < o.m.toNat := by
  obtain ⟨⟨o', ho', hm⟩, -⟩ := (Cell.timersLegal_discharging hs).mp h.timers
  obtain rfl : o' = o := Option.some.inj (ho'.symm.trans ho)
  exact ⟨hm, (Cell.countsLegal_some ho).mp h.counts⟩

/-- A cell that holds an order is in one of the four states of one. -/
theorem Cell.Timed.order (h : k.Timed) (ho : k.order = some o) : k.state.converting = true := by
  cases hs : k.state
  case down => simp [((Cell.timersLegal_down hs).mp h.timers).1] at ho
  case resting => simp [((Cell.timersLegal_resting hs).mp h.timers).1] at ho
  case idle => simp [((Cell.timersLegal_idle hs).mp h.timers).1] at ho
  all_goals rfl

end

/-! ### Rests, aborts and orders -/

theorem Cell.reset_timed (l : Level) : (Cell.reset l).Timed := ⟨rfl, rfl⟩

theorem Cell.rest_timed (k : Cell) : k.rest.Timed := ⟨rfl, rfl⟩

theorem Cell.abort_timed {k : Cell} (h : k.Timed) : k.abort.Timed := by
  unfold Cell.abort
  split
  · exact k.rest_timed
  · exact h

theorem Cell.endRest_timed {k : Cell} (hd : k.restDue = true) (h : k.Timed) : k.endRest.Timed := by
  simp only [Cell.restDue, Bool.and_eq_true, decide_eq_true_eq] at hd
  obtain ⟨ho, -, hs⟩ := (Cell.timersLegal_resting hd.1).mp h.timers
  exact .of_idle rfl rfl rfl hs
    ((Cell.countsLegal_none rfl).mpr ((Cell.countsLegal_none ho).mp h.counts))

theorem Cell.enable_timed {k : Cell} (h : k.Timed) : k.enable.Timed := by
  unfold Cell.enable
  split
  · rename_i hs
    obtain ⟨ho, -, hs⟩ := (Cell.timersLegal_down hs).mp h.timers
    exact .of_resting rfl ho rfl le_rfl hs h.counts
  · exact h

theorem Cell.take_timed (k : Cell) (o : Order) : (k.take o).Timed := by
  unfold Cell.take
  dsimp only
  cases hm : o.method with
  | slope => exact .of_precharging rfl rfl hm rfl rfl o.m.toNat_pos
  | count => exact .of_starting rfl rfl (by simp [hm]) rfl rfl rfl o.m.toNat_pos
  | period => exact .of_starting rfl rfl (by simp [hm]) rfl rfl rfl o.m.toNat_pos

/-! ### Ticks and crossings -/

theorem Cell.tick_timed {k : Cell} (h : k.Timed) : k.tick.Timed := by
  have phase : k.tick.phaseTimer = k.phaseTimer.tick := rfl
  have stall : k.tick.stallTimer = k.stallTimer.map (· + 1) := rfl
  cases ho : k.order with
  | none =>
    cases hs : k.state
    case down =>
      obtain ⟨-, hp, ht⟩ := (Cell.timersLegal_down hs).mp h.timers
      exact .of_down hs ho (by rw [phase, hp]; rfl) (by rw [stall, ht]; rfl) h.counts
    case resting =>
      obtain ⟨-, ⟨n, hn, hp⟩, ht⟩ := (Cell.timersLegal_resting hs).mp h.timers
      exact .of_resting (n := n - 1) hs ho (by rw [phase, hp]; rfl) (by omega)
        (by rw [stall, ht]; rfl) h.counts
    case idle =>
      obtain ⟨-, hp, ht⟩ := (Cell.timersLegal_idle hs).mp h.timers
      exact .of_idle hs ho (by rw [phase, hp]; rfl) (by rw [stall, ht]; rfl) h.counts
    case starting =>
      obtain ⟨⟨o, ho', -⟩, -⟩ := (Cell.timersLegal_starting hs).mp h.timers
      simp [ho] at ho'
    case measuring =>
      obtain ⟨⟨o, ho', -⟩, -⟩ := (Cell.timersLegal_measuring hs).mp h.timers
      simp [ho] at ho'
    case precharging =>
      obtain ⟨⟨o, ho', -⟩, -⟩ := (Cell.timersLegal_precharging hs).mp h.timers
      simp [ho] at ho'
    case discharging =>
      obtain ⟨⟨o, ho', -⟩, -⟩ := (Cell.timersLegal_discharging hs).mp h.timers
      simp [ho] at ho'
  | some o =>
    have hc := h.order ho
    cases hs : k.state <;> rw [hs] at hc
    case down | resting | idle => cases hc
    case starting =>
      obtain ⟨hm, hp, ⟨n, ht⟩, hc, hd⟩ := h.starting hs ho
      exact .of_starting (n := n + 1) hs ho hm (by rw [phase, hp]; rfl) (by rw [stall, ht]; rfl)
        hc hd
    case measuring =>
      obtain ⟨⟨hm, hp⟩ | ⟨hm, i, hp⟩, ⟨n, ht⟩, hd⟩ := h.measuring hs ho
      · refine .of_counting (n := n + 1) hs ho hm (fun i => ?_) (by rw [stall, ht]; rfl) hd
        rw [phase]
        cases hk : k.phaseTimer with
        | stopped => exact PhaseTimer.noConfusion
        | down n => exact PhaseTimer.noConfusion
        | up n => exact absurd hk (hp n)
      · exact .of_timing (n := n + 1) (i := i + 1) hs ho hm (by rw [phase, hp]; rfl)
          (by rw [stall, ht]; rfl) hd
    case precharging =>
      obtain ⟨⟨o', ho', -⟩, ⟨i, hp⟩, ht⟩ := (Cell.timersLegal_precharging hs).mp h.timers
      obtain ⟨hm, hd⟩ := h.precharging hs ho
      exact .of_precharging (i := i - 1) hs ho hm (by rw [phase, hp]; rfl) (by rw [stall, ht]; rfl)
        hd
    case discharging =>
      obtain ⟨-, ⟨i, hp⟩, n, ht⟩ := (Cell.timersLegal_discharging hs).mp h.timers
      obtain ⟨hm, hd⟩ := h.discharging hs ho
      exact .of_discharging (n := n + 1) (i := i + 1) hs ho hm (by rw [phase, hp]; rfl)
        (by rw [stall, ht]; rfl) hd

/-- No timer depends on the level. -/
theorem Cell.Timed.level {k : Cell} (l : Level) (h : k.Timed) : ({ k with level := l }).Timed :=
  ⟨h.timers, h.counts⟩

/-- Where the stall timer runs it may restart. -/
theorem Cell.Timed.stallRestart {k : Cell} (h : k.Timed)
    (hs : k.state = .starting ∨ k.state = .measuring) :
    ({ k with stallTimer := some 0 }).Timed := by
  obtain hs | hs := hs
  · obtain ⟨⟨o, ho, -⟩, -⟩ := (Cell.timersLegal_starting hs).mp h.timers
    obtain ⟨hm, hp, -, hc, hd⟩ := h.starting hs ho
    exact .of_starting hs ho hm hp rfl hc hd
  · obtain ⟨⟨o, ho, -⟩, -⟩ := (Cell.timersLegal_measuring hs).mp h.timers
    obtain ⟨⟨hm, hp⟩ | ⟨hm, i, hp⟩, -, hd⟩ := h.measuring hs ho
    · exact .of_counting hs ho hm hp rfl hd
    · exact .of_timing hs ho hm hp rfl hd

theorem Cell.upperCrossing_timed {k : Cell} (h : k.Timed) : k.upperCrossing.Timed := by
  unfold Cell.upperCrossing
  split
  · dsimp only
    split
    · exact (h.level .high).stallRestart (.inl ‹_›)
    · exact (h.level .high).stallRestart (.inr ‹_›)
    all_goals exact h.level .high
  · exact h

/-- A sample begins in a cell that measures, or ends its settle. -/
theorem Cell.beginSample_timed {k : Cell} {o : Order} {n : Nat} (d : Nat) (ho : k.order = some o)
    (hm : o.method ≠ .slope) (hs : k.state = .measuring) (ht : k.stallTimer = some n)
    (hc : k.samplesDone < o.m.toNat) : (k.beginSample d o).Timed := by
  unfold Cell.beginSample
  split
  · exact .of_counting hs ho ‹_› (fun _ => PhaseTimer.noConfusion) ht hc
  · exact .of_timing hs ho ‹_› rfl ht hc
  · exact absurd ‹_› hm

theorem Cell.settleCrossing_timed {k : Cell} {o : Order} (d : Nat) (h : k.Timed)
    (hs : k.state = .starting) (ho : k.order = some o) : (k.settleCrossing d o).Timed := by
  obtain ⟨hm, hp, -, hc, hn⟩ := h.starting hs ho
  unfold Cell.settleCrossing
  dsimp only
  split
  · split
    · exact Cell.beginSample_timed d ho hm rfl rfl hn
    · exact .of_starting hs ho hm hp rfl hc hn
  · split
    · exact Cell.beginSample_timed d ho hm rfl rfl hn
    · exact .of_starting hs ho hm hp rfl hc hn

theorem Cell.countCrossing_timed {k : Cell} {o : Order} (d : Nat) (h : k.Timed)
    (hs : k.state = .measuring) (ho : k.order = some o) (hm : o.method = .count)
    (hr : (k.countCrossing d o).2 = none) : (k.countCrossing d o).1.Timed := by
  obtain ⟨-, -, hn⟩ := h.measuring hs ho
  unfold Cell.countCrossing at hr ⊢
  dsimp only at hr ⊢
  split
  · rename_i i hp
    split
    · simp_all
    · exact .of_counting hs ho hm (by simp [hp]) rfl hn
  all_goals exact .of_counting hs ho hm (fun _ => PhaseTimer.noConfusion) rfl hn

theorem Cell.periodCrossing_timed {k : Cell} {o : Order} (d : Nat) (h : k.Timed)
    (hs : k.state = .measuring) (ho : k.order = some o) (hm : o.method = .period)
    (hr : (k.periodCrossing d o).2 = none) : (k.periodCrossing d o).1.Timed := by
  obtain ⟨⟨hc, -⟩ | ⟨-, i, hp⟩, -, hn⟩ := h.measuring hs ho
  · simp [hm] at hc
  · unfold Cell.periodCrossing at hr ⊢
    dsimp only at hr ⊢
    split
    · exact .of_timing hs ho hm hp rfl hn
    · rename_i hc
      simp only [hc, if_false] at hr
      by_cases hl : k.samplesDone + 1 < o.m.toNat
      · rw [Cell.completeSample_more _ (by exact hl)]
        exact Cell.beginSample_timed d ho (by simp [hm]) hs rfl hl
      · rw [Cell.completeSample_last _ (by exact hl)] at hr
        cases hr

theorem Cell.dischargeCrossing_timed {k : Cell} {o : Order} (h : k.Timed)
    (hs : k.state = .discharging) (ho : k.order = some o)
    (hr : (k.dischargeCrossing o).2 = none) : (k.dischargeCrossing o).1.Timed := by
  obtain ⟨hm, -⟩ := h.discharging hs ho
  unfold Cell.dischargeCrossing at hr ⊢
  by_cases hl : k.samplesDone + 1 < o.m.toNat
  · rw [Cell.completeSample_more _ hl]
    exact .of_precharging rfl ho hm rfl rfl hl
  · rw [Cell.completeSample_last _ hl] at hr
    cases hr

/-! A lower crossing that is noticed, by the state it finds. -/

theorem Cell.lowerCrossing_ignored {k : Cell} (d : Nat)
    (h : ¬(k.level = .high ∧ k.coincides = false)) : k.lowerCrossing d = (k, none) := by
  rw [Cell.lowerCrossing, if_neg h]

theorem Cell.lowerCrossing_starting {k : Cell} {o : Order} (d : Nat)
    (h : k.level = .high ∧ k.coincides = false) (hs : k.state = .starting)
    (ho : k.order = some o) :
    k.lowerCrossing d = (({ k with level := .low }).settleCrossing d o, none) := by
  rw [Cell.lowerCrossing, if_pos h]
  dsimp only
  split <;> simp_all

theorem Cell.lowerCrossing_counting {k : Cell} {o : Order} (d : Nat)
    (h : k.level = .high ∧ k.coincides = false) (hs : k.state = .measuring)
    (ho : k.order = some o) (hm : o.method = .count) :
    k.lowerCrossing d = ({ k with level := .low }).countCrossing d o := by
  rw [Cell.lowerCrossing, if_pos h]
  dsimp only
  split <;> simp_all

theorem Cell.lowerCrossing_timing {k : Cell} {o : Order} (d : Nat)
    (h : k.level = .high ∧ k.coincides = false) (hs : k.state = .measuring)
    (ho : k.order = some o) (hm : o.method ≠ .count) :
    k.lowerCrossing d = ({ k with level := .low }).periodCrossing d o := by
  rw [Cell.lowerCrossing, if_pos h]
  dsimp only
  split
  · simp_all
  · simp only [ho, Option.some.injEq] at *
    subst o
    split <;> simp_all
  · simp_all
  · simp_all

theorem Cell.lowerCrossing_discharging {k : Cell} {o : Order} (d : Nat)
    (h : k.level = .high ∧ k.coincides = false) (hs : k.state = .discharging)
    (ho : k.order = some o) :
    k.lowerCrossing d = ({ k with level := .low }).dischargeCrossing o := by
  rw [Cell.lowerCrossing, if_pos h]
  dsimp only
  split <;> simp_all

theorem Cell.lowerCrossing_other {k : Cell} (d : Nat)
    (h : k.level = .high ∧ k.coincides = false)
    (hs : k.order = none ∨
      k.state ≠ .starting ∧ k.state ≠ .measuring ∧ k.state ≠ .discharging) :
    k.lowerCrossing d = ({ k with level := .low }, none) := by
  rw [Cell.lowerCrossing, if_pos h]
  dsimp only
  split <;> simp_all

/-- A lower crossing that delivers nothing. -/
theorem Cell.lowerCrossing_timed {k : Cell} (d : Nat) (h : k.Timed)
    (hr : (k.lowerCrossing d).2 = none) : (k.lowerCrossing d).1.Timed := by
  have hk := h.level .low
  by_cases hl : k.level = .high ∧ k.coincides = false
  · cases ho : k.order with
    | none =>
      rw [Cell.lowerCrossing_other d hl (.inl ho)]
      exact hk
    | some o =>
      cases hs : k.state
      case starting =>
        rw [Cell.lowerCrossing_starting d hl hs ho]
        exact Cell.settleCrossing_timed d hk hs ho
      case measuring =>
        cases hm : o.method with
        | count =>
          rw [Cell.lowerCrossing_counting d hl hs ho hm] at hr ⊢
          exact Cell.countCrossing_timed d hk hs ho hm hr
        | period =>
          rw [Cell.lowerCrossing_timing d hl hs ho (by simp [hm])] at hr ⊢
          exact Cell.periodCrossing_timed d hk hs ho hm hr
        | slope =>
          obtain ⟨⟨hm', -⟩ | ⟨hm', -⟩, -⟩ := h.measuring hs ho <;> simp [hm] at hm'
      case discharging =>
        rw [Cell.lowerCrossing_discharging d hl hs ho] at hr ⊢
        exact Cell.dischargeCrossing_timed hk hs ho hr
      all_goals
        rw [Cell.lowerCrossing_other d hl (.inr (by simp [hs]))]
        exact hk
  · rw [Cell.lowerCrossing_ignored d hl]
    exact h

/-! ### Expiries -/

/-- A gate that is due stands open under COUNT. -/
theorem Cell.gateDue_iff {k : Cell} : k.gateDue = true ↔ ∃ o, k.order = some o ∧
    k.state = .measuring ∧ o.method = .count ∧ k.phaseTimer = .down 0 := by
  unfold Cell.gateDue
  cases k.order <;> simp [and_assoc]

/-- The expiry of the gate, with the order it ends. -/
theorem Cell.expireGate_order {k : Cell} {o : Order} (ho : k.order = some o) :
    k.expireGate = if k.crossings = 0 then
        ({ k with phaseTimer := .stopped }, some (.underrange k.samplesDone))
      else ({ k with phaseTimer := .stopped }).completeSample o k.crossings := by
  unfold Cell.expireGate
  split <;> simp_all

theorem Cell.expireGate_timed {k : Cell} (h : k.Timed) (due : k.gateDue = true)
    (hr : k.expireGate.2 = none) : k.expireGate.1.Timed := by
  obtain ⟨o, ho, hs, hm, hp⟩ := Cell.gateDue_iff.mp due
  obtain ⟨-, ⟨n, ht⟩, hn⟩ := h.measuring hs ho
  rw [Cell.expireGate_order ho] at hr ⊢
  split
  · simp_all
  · rename_i hc
    rw [if_neg hc] at hr
    by_cases hl : k.samplesDone + 1 < o.m.toNat
    · rw [Cell.completeSample_more _ (by exact hl)]
      exact .of_counting hs ho hm (fun _ => PhaseTimer.noConfusion) ht hl
    · rw [Cell.completeSample_last _ (by exact hl)] at hr
      cases hr

theorem Cell.releaseCapacitor_timed {k : Cell} (h : k.Timed) (due : k.prechargeDue = true)
    (hr : k.releaseCapacitor.2 = none) : k.releaseCapacitor.1.Timed := by
  simp only [Cell.prechargeDue, Bool.and_eq_true, decide_eq_true_eq] at due
  obtain ⟨⟨hs, -⟩, ho⟩ := due
  obtain ⟨o, ho⟩ := Option.isSome_iff_exists.mp ho
  obtain ⟨hm, hn⟩ := h.precharging hs ho
  cases hl : k.level with
  | low => simp [Cell.releaseCapacitor, hl] at hr
  | high =>
    simp only [Cell.releaseCapacitor, hl]
    exact .of_discharging rfl ho hm rfl rfl hn

/-- An event of the cell's own that delivers nothing. -/
theorem Cell.OwnEvent.timed {d : Nat} {k : Cell} {r : Cell × Option Outcome} (e : k.OwnEvent d r)
    (h : k.Timed) (hr : r.2 = none) : r.1.Timed := by
  cases e with
  | lower => exact Cell.lowerCrossing_timed d h hr
  | gate due => exact Cell.expireGate_timed h due hr
  | precharge due => exact Cell.releaseCapacitor_timed h due hr
  | overflow => cases hr
  | stall => cases hr

/-! ### The part -/

theorem CellsTimed.congr {s t : State} (h : CellsTimed s) (cells : t.cells = s.cells) :
    CellsTimed t := by
  rw [cellsTimed_iff] at h ⊢
  intro c
  rw [State.cell_eq_of_cells cells]
  exact h c

theorem CellsTimed.setCell {s : State} (h : CellsTimed s) (c : CellId) {k : Cell} (hk : k.Timed) :
    CellsTimed (s.setCell c k) := by
  rw [cellsTimed_iff] at h ⊢
  refine CellId.all_of c ?_ ?_
  · rwa [State.cell_setCell_self]
  · rw [State.cell_setCell_other]
    exact h _

theorem CellsTimed.cell {s : State} (h : CellsTimed s) (c : CellId) : (s.cell c).Timed :=
  cellsTimed_iff.mp h c

theorem CellsTimed.acts : KeptByActs CellsTimed fun _ => True where
  moved _ c _ e hr h := h.setCell c (e.timed (h.cell c) hr)
  delivered _ c r _ _ _ h := ⟨h.setCell c r.1.rest_timed, trivial⟩
  aborted _ c h := h.setCell c (Cell.abort_timed (h.cell c))
  disabled _ c h := h.setCell c (Cell.reset_timed _)
  restEnded _ c hd h := h.setCell c (Cell.endRest_timed hd (h.cell c))
  ordered _ c _ _ _ _ h := h.setCell c (Cell.take_timed _ _)
  opportunity _ _ _ h := h.congr rfl
  health _ _ _ _ h := h.congr (by simp)
  offered _ _ _ _ _ _ _ h := h.congr (by simp)
  reported _ _ _ _ _ _ _ h := h.congr (by simp)
  paired _ _ _ _ _ _ _ h := h.congr rfl
  completed _ _ _ _ _ _ _ h := h.congr (by simp)
  ended _ _ _ _ _ _ h := h.congr (by simp)
  released _ h := h.congr (by simp)
  claimed _ _ _ _ _ h := h.congr (by simp)
  spent _ _ _ h := h.congr (by simp)

theorem CellsTimed.rules (code : Byte) (s : State) (h : CellsTimed s) :
    CellsTimed (commandOf code s).state := by
  revert s
  apply commandOf_keeps (Q := fun rule => ∀ s, CellsTimed s → CellsTimed (rule s).state)
  case cellEnable =>
    intro s h
    unfold Machine.cellEnable
    split
    · exact h
    · exact h.setCell _ (Cell.enable_timed (h.cell _))
  case cellDisable =>
    exact CellsTimed.acts.cellDisable (fun _ _ h => h.congr rfl) (fun _ _ h => h.congr rfl)
      fun _ h => h.congr (by simp)
  case requestCancel =>
    exact requestCancel_keeps (fun _ _ e h => h.congr e.cells) (fun _ _ _ h => h.congr rfl)
      CellsTimed.acts.cancelJob
  case softReset =>
    intro s _
    refine cellsTimed_iff.mpr fun c => ?_
    cases c <;> exact Cell.reset_timed _
  case bad => intro _ _ h; exact h
  all_goals intro s h; exact h.congr (by simp)

theorem CellsTimed.kept : KeptBySteps CellsTimed where
  unread _ _ e h := h.congr e.cells
  rules := CellsTimed.rules
  deviceReset s _ := by
    refine cellsTimed_iff.mpr fun c => ?_
    cases c <;> exact Cell.reset_timed _
  upperCrossing _ c h := h.setCell c (Cell.upperCrossing_timed (h.cell c))
  lowerCrossing := CellsTimed.acts.lowerCrossing
  commitApply _ h := h.congr (by simp)
  arrival := CellsTimed.acts.takeArrival (fun _ h => h.congr (by simp))
    (fun _ h => h.congr (by simp)) fun _ h => h.congr (by simp)
  countTick s l h := by
    refine cellsTimed_iff.mpr fun c => ?_
    rw [State.countTick_cell]
    exact Cell.tick_timed (h.cell c)

/-- Settles O11: each event of a cell keeps its timers and counts, and no other event moves a cell. -/
theorem stepKeepsCellsTimed : Obligations.StepKeepsCellsTimed :=
  fun _ _ h hs => CellsTimed.kept.step h hs

end Sys2Proof.Machine
end

section
-- One declaration at a time: the stacks of parallel elaboration do not fit under the memory limit.
set_option Elab.async false
/-!
The scan sequencer (O7): its registers and the scan timer agree, and the jobs in flight are the scan
jobs that the contexts hold. A job's end is handed on before its context is released, so the agreement
is said of the registers with the number of jobs beside them.
-/
namespace Sys2Proof.Machine

/-- The registers agree when `n` scan jobs are held. -/
structure ScanAgrees (x : Scan) (t : ScanTimer) (n : Nat) : Prop where
  inFlight : x.jobsInFlight = n
  due : x.state ≠ .cycle → x.due = []
  quiet : x.state = .stopped ∨ x.state = .waiting → n = 0
  single : x.single = true → x.state = .cycle
  pending : x.commitPending = true → x.state ≠ .stopped
  running : t.running = true → x.source = .timer ∧
    (x.state = .waiting ∨ (x.state = .cycle ∧ x.single = false))
  period : x.state = .stopped → t.pendingPeriod = none
  sorted : x.due.Pairwise (· < ·)

/-- The scan jobs in a context. -/
def scanHeld (j : Option Job) : Nat :=
  match j with
  | some j => if j.isScan then 1 else 0
  | none => 0

theorem State.scanJobs_eq (s : State) (c : CellId) : s.scanJobs c = scanHeld (s.job c) := rfl

theorem scanConsistent_iff {s : State} (c : CellId) : ScanConsistent s ↔
    ScanAgrees s.scan s.timer (scanHeld (s.job c) + scanHeld (s.job c.other)) := by
  have sum : scanHeld (s.job c) + scanHeld (s.job c.other) = s.scanJobs .a + s.scanJobs .b := by
    cases c with
    | a => rfl
    | b => exact Nat.add_comm ..
  rw [sum]
  exact ⟨fun h => ⟨h.inFlight, h.due, fun hs => h.inFlight ▸ h.quiet hs, h.single, h.pending,
      h.running, h.period, h.sorted⟩,
    fun h => ⟨h.inFlight, h.due, fun hs => h.inFlight.trans (h.quiet hs), h.single, h.pending,
      h.running, h.period, h.sorted⟩⟩

theorem ScanConsistent.agrees {s : State} (h : ScanConsistent s) :
    ScanAgrees s.scan s.timer (scanHeld (s.job .a) + scanHeld (s.job .b)) :=
  (scanConsistent_iff .a).mp h

/-- New registers, with the scan jobs that were held. -/
theorem ScanConsistent.of_agrees {s t : State}
    (h : ScanAgrees t.scan t.timer (scanHeld (s.job .a) + scanHeld (s.job .b)))
    (jobs : ∀ c, scanHeld (t.job c) = scanHeld (s.job c)) : ScanConsistent t := by
  rw [scanConsistent_iff .a, jobs, jobs]
  exact h

theorem ScanConsistent.congr {s t : State} (h : ScanConsistent s) (scan : t.scan = s.scan)
    (timer : t.timer = s.timer) (jobs : ∀ c, scanHeld (t.job c) = scanHeld (s.job c)) :
    ScanConsistent t := by
  refine .of_agrees ?_ jobs
  rw [scan, timer]
  exact h.agrees

/-! ### The registers' own moves -/

/-- Only the registers that `ScanAgrees` names matter. -/
theorem ScanAgrees.congr {x y : Scan} {t u : ScanTimer} {n : Nat} (h : ScanAgrees x t n)
    (state : y.state = x.state) (due : y.due = x.due) (inFlight : y.jobsInFlight = x.jobsInFlight)
    (single : y.single = x.single) (pending : y.commitPending = x.commitPending)
    (source : y.source = x.source) (running : u.running = t.running)
    (period : u.pendingPeriod = t.pendingPeriod) : ScanAgrees y u n := by
  obtain ⟨h1, h2, h3, h4, h5, h6, h7, h8⟩ := h
  constructor <;> simpa only [state, due, inFlight, single, pending, source, running, period]

/-- A due list may lose entries. -/
theorem ScanAgrees.sublist {x : Scan} {t : ScanTimer} {n : Nat} (h : ScanAgrees x t n)
    {l : List (Fin 16)} (sub : l.Sublist x.due) : ScanAgrees { x with due := l } t n where
  inFlight := h.inFlight
  due hs := by have := h.due hs; rw [this] at sub; exact List.sublist_nil.mp sub
  quiet := h.quiet
  single := h.single
  pending := h.pending
  running := h.running
  period := h.period
  sorted := h.sorted.sublist sub

/-- A pending commit may leave. -/
theorem ScanAgrees.unpend {x : Scan} {t : ScanTimer} {n : Nat} (h : ScanAgrees x t n) :
    ScanAgrees { x with commitPending := false } t n where
  inFlight := h.inFlight
  due := h.due
  quiet := h.quiet
  single := h.single
  pending h := nomatch h
  running := h.running
  period := h.period
  sorted := h.sorted

theorem State.applyCommit_agrees {s : State} {n : Nat} (h : ScanAgrees s.scan s.timer n) :
    ScanAgrees s.applyCommit.scan s.applyCommit.timer n :=
  h.unpend.congr rfl rfl rfl rfl rfl rfl rfl rfl

theorem State.applyPending_agrees {s : State} {n : Nat} (h : ScanAgrees s.scan s.timer n) :
    ScanAgrees s.applyPending.scan s.applyPending.timer n := by
  unfold State.applyPending
  split
  · exact State.applyCommit_agrees h
  · exact h

/-- STOPPED is reached with nothing due and no scan job held. -/
theorem State.reachStopped_agrees {s : State} (due : s.scan.due = [])
    (inFlight : s.scan.jobsInFlight = 0) (single : s.scan.single = false) :
    ScanAgrees s.reachStopped.scan s.reachStopped.timer 0 := by
  have h := s.reachStopped_stops
  rw [h.scan, h.timer]
  exact ⟨inFlight, fun _ => due, fun _ => rfl, by simp [single], nofun, nofun, fun _ => rfl,
    by simp [due]⟩

theorem State.completionCheck_agrees {s : State} {n : Nat} (h : ScanAgrees s.scan s.timer n) :
    ScanAgrees s.completionCheck.scan s.completionCheck.timer n := by
  unfold State.completionCheck
  split
  · split
    · rename_i hs hd
      obtain ⟨hd, hj⟩ := hd
      obtain rfl : n = 0 := h.inFlight.symm.trans hj
      dsimp only
      split
      · exact State.reachStopped_agrees hd hj rfl
      · rename_i hone
        have hone : s.scan.single = false := by simpa using hone
        exact ⟨hj, fun _ => hd, fun _ => rfl, fun h => by simp [hone] at h, fun _ => nofun,
          fun hr => ⟨(h.running hr).1, .inl rfl⟩, nofun, by simp [hd]⟩
    · exact h
  · rename_i hs
    split
    · rename_i hj
      obtain rfl : n = 0 := h.inFlight.symm.trans hj
      refine State.reachStopped_agrees (h.due (by simp [hs])) hj ?_
      by_contra hone
      have := h.single (by simpa using hone)
      simp [hs] at this
    · exact h
  · exact h
  · exact h

/-- The due list of a cycle holds its indexes in increasing order. -/
theorem State.dueList_sorted (s : State) (n : BitVec 16) : (s.dueList n).Pairwise (· < ·) :=
  (List.pairwise_lt_finRange 16).filter _

/-- A cycle starts with the jobs in flight known, and the timer not running under the mark. -/
theorem State.startCycle_agrees {s : State} {n : Nat} (inFlight : s.scan.jobsInFlight = n)
    (running : s.timer.running = true → s.scan.source = .timer ∧ s.scan.single = false) :
    ScanAgrees s.startCycle.scan s.startCycle.timer n := by
  have start : ScanAgrees { s.scan with
      cycle := s.scan.cycle + 1, due := s.dueList (s.scan.cycle + 1), state := .cycle }
      s.timer n :=
    ⟨inFlight, fun h => absurd rfl h, by simp, fun _ => rfl, fun _ => nofun,
      fun hr => ⟨(running hr).1, .inr ⟨rfl, (running hr).2⟩⟩, nofun, s.dueList_sorted _⟩
  unfold State.startCycle
  dsimp only
  split
  · exact State.completionCheck_agrees (by simpa using start)
  · simpa using start

theorem State.cycleStartEvent_agrees {s : State} {n : Nat} (h : ScanAgrees s.scan s.timer n) :
    ScanAgrees s.cycleStartEvent.scan s.cycleStartEvent.timer n := by
  unfold State.cycleStartEvent
  split
  · rename_i hs
    have hp := State.applyPending_agrees h
    refine State.startCycle_agrees hp.inFlight fun hr => ⟨(hp.running hr).1, ?_⟩
    have hw : s.applyPending.scan.state = .waiting := by
      unfold State.applyPending
      split <;> exact hs
    by_contra hone
    have := hp.single (by simpa using hone)
    rw [hw] at this
    cases this
  · exact h.congr rfl rfl rfl rfl rfl rfl rfl rfl
  · exact h
  · exact h

/-! ### Jobs -/

/-- The end of a job takes it out of its context and, a scan job, out of those in flight. -/
theorem ScanConsistent.finishJob {s : State} (h : ScanConsistent s) {c : CellId} {j : Job}
    (hj : s.job c = some j) (r : Record) : ScanConsistent (s.finishJob c j r) := by
  rw [scanConsistent_iff c, State.finishJob_job_self, State.finishJob_job_other]
  rw [scanConsistent_iff c, hj] at h
  cases ho : j.origin with
  | request tag =>
    simpa [State.finishJob, ho, scanHeld, Job.isScan] using h
  | scan i n =>
    have held : scanHeld (some j) = 1 := by simp [scanHeld, Job.isScan, ho]
    have one : ScanAgrees { s.scan with jobsInFlight := s.scan.jobsInFlight - 1 } s.timer
        (scanHeld (s.job c.other)) := by
      rw [held] at h
      refine ⟨?_, h.due, fun hs => ?_, h.single, h.pending, h.running, h.period, h.sorted⟩
      · have := h.inFlight
        dsimp only
        omega
      · have := h.quiet hs
        omega
    have : ScanAgrees ((s.monitor i r).2.append (s.monitor i r).1).endScanJob.scan
        ((s.monitor i r).2.append (s.monitor i r).1).endScanJob.timer
        (scanHeld (s.job c.other)) :=
      State.completionCheck_agrees (by simpa using one)
    simpa [State.finishJob, ho, scanHeld] using this

/-- A candidate that is a due entry stands on the due list of a cycle. -/
theorem State.candidate_scan {s : State} {c : CellId} {w : Work} {i : Fin 16} {n : BitVec 16}
    (hw : s.candidate c = some w) (ho : w.origin = .scan i n) : i ∈ s.scan.due := by
  unfold State.candidate at hw
  split at hw
  · simp only [Option.some.injEq] at hw
    subst hw
    simp [Request.work] at ho
  · obtain ⟨k, hk, hw⟩ := List.exists_of_findSome?_eq_some hw
    unfold State.dueWork at hw
    dsimp only at hw
    split at hw
    · split at hw
      · simp only [Option.some.injEq] at hw
        subst hw
        simp only [Origin.scan.injEq] at ho
        exact ho.1 ▸ hk
      · cases hw
    · cases hw

theorem scanHeld_jobOf (s : State) (c : CellId) (w : Work) (v : Judgement) :
    scanHeld (some (s.jobOf c w v)) = match w.origin with
      | .scan _ _ => 1
      | .request _ => 0 := by
  unfold scanHeld Job.isScan State.jobOf
  cases w.origin <;> rfl

/-- A candidate claimed: a due entry leaves the list and is in flight. -/
theorem ScanConsistent.claimed {s : State} (h : ScanConsistent s) {c : CellId} {w : Work}
    (v : Judgement) (hj : s.job c = none) (hw : s.candidate c = some w) :
    ScanConsistent (((s.reserve v.slots).withdraw c w).setJob c (some (s.jobOf c w v))) := by
  rw [scanConsistent_iff c] at h ⊢
  simp only [hj, State.job_setJob_self, State.job_setJob_other, State.withdraw_reads,
    State.reserve_job, State.setJob_scan, State.setJob_timer, scanHeld_jobOf] at h ⊢
  unfold State.withdraw
  cases ho : w.origin with
  | request tag => simpa [ho, scanHeld] using h
  | scan i n =>
    have hm := State.candidate_scan hw ho
    have cycle : s.scan.state = .cycle := by
      by_contra hs
      rw [h.due hs] at hm
      cases hm
    have hd := h.sublist (List.erase_sublist (a := i))
    refine ⟨?_, hd.due, ?_, hd.single, hd.pending, hd.running, hd.period, hd.sorted⟩
    · have := h.inFlight
      have none_held : scanHeld none = 0 := rfl
      rw [none_held] at this
      simp only [State.setScan_scan, State.reserve_scan]
      omega
    · simp [cycle]

theorem ScanConsistent.removeDue {s : State} (h : ScanConsistent s) (c : CellId) :
    ScanConsistent (s.removeDue c) :=
  .of_agrees (h.agrees.sublist List.filter_sublist) fun _ => rfl

theorem ScanConsistent.completionCheck {s : State} (h : ScanConsistent s) :
    ScanConsistent s.completionCheck :=
  .of_agrees (State.completionCheck_agrees h.agrees) (by simp)

theorem ScanConsistent.acts : KeptByActs ScanConsistent fun _ => True where
  moved _ _ _ _ _ h := h.congr rfl rfl (by simp)
  delivered _ _ _ _ _ _ h := ⟨h.congr rfl rfl (by simp), trivial⟩
  aborted _ _ h := h.congr rfl rfl (by simp)
  disabled _ _ h := h.congr rfl rfl (by simp)
  restEnded _ _ _ h := h.congr rfl rfl (by simp)
  ordered _ _ _ _ _ _ h := h.congr rfl rfl (by simp)
  opportunity _ _ _ h := h.congr rfl rfl (by simp)
  health _ _ _ _ h := h.congr (by simp) (by simp) (by simp)
  offered _ _ _ _ _ _ _ h := h.congr (by simp) (by simp) (by simp)
  reported _ _ _ _ _ _ _ h := h.congr (by simp) (by simp) (by simp)
  paired s c j _ raw hj _ h := by
    refine h.congr rfl rfl (CellId.all_of c ?_ (by simp))
    rw [State.job_setJob_self, hj]
    rfl
  completed _ _ _ _ _ hj _ h := h.finishJob hj _
  ended _ _ _ _ _ hj h := h.finishJob hj _
  released _ h := h.congr (by simp) (by simp) (by simp)
  claimed _ _ _ hj hw h := h.claimed _ hj hw
  spent _ _ _ h := h.congr rfl rfl (by simp [State.spendUse])

/-! ### Commands -/

theorem ScanConsistent.scanConfig {s : State} (h : ScanConsistent s) :
    ScanConsistent (scanConfig s).state := by
  have ha := h.agrees
  unfold Machine.scanConfig State.handPeriod
  split
  · split
    · exact h
    · split
      · rename_i hs
        have still : s.timer.running = false := by
          by_contra hr
          obtain ⟨-, hw | ⟨hw, -⟩⟩ := ha.running (by simpa using hr) <;> simp [hs] at hw
        refine .of_agrees (s := s) ?_ fun _ => rfl
        simp only [Reply.done, if_pos hs]
        exact ⟨ha.inFlight, ha.due, ha.quiet, ha.single, ha.pending, by simp [still], ha.period,
          ha.sorted⟩
      · rename_i hs
        split
        · refine .of_agrees (s := s) ?_ fun _ => rfl
          simp only [Reply.done, if_neg hs]
          exact ⟨ha.inFlight, ha.due, ha.quiet, ha.single, ha.pending, ha.running,
            fun h => absurd h hs, ha.sorted⟩
        · exact h
  · exact h

theorem ScanConsistent.scanStart {s : State} (h : ScanConsistent s) :
    ScanConsistent (scanStart s).state := by
  have ha := h.agrees
  unfold Machine.scanStart
  split
  · rename_i hs
    have idle : s.timer.running = false := by
      by_contra hr
      obtain ⟨-, hw | ⟨hw, -⟩⟩ := ha.running (by simpa using hr) <;> simp [hs] at hw
    refine .of_agrees (s := s) ?_ fun _ => rfl
    refine ⟨ha.inFlight, fun _ => ha.due (by simp [hs]), fun _ => ha.quiet (.inl hs), nofun,
      fun _ => nofun, fun hr => ⟨?_, .inl rfl⟩, nofun, ha.sorted⟩
    by_contra hn
    simp only [Reply.done, State.startScan] at hn hr
    simp [hn, idle] at hr
  · exact h

theorem ScanConsistent.scanOnce {s : State} (h : ScanConsistent s) :
    ScanConsistent (scanOnce s).state := by
  have ha := h.agrees
  unfold Machine.scanOnce
  split
  · rename_i hs
    refine .of_agrees (s := s) (State.startCycle_agrees ha.inFlight fun hr => ?_)
      (by simp [Reply.done])
    obtain ⟨-, hw | ⟨hw, -⟩⟩ := ha.running hr <;> simp [hs] at hw
  · exact h

theorem ScanConsistent.scanStop {s : State} (h : ScanConsistent s) :
    ScanConsistent (scanStop s).state := by
  have ha := h.agrees
  refine .of_agrees (s := s) ?_ (by simp [Machine.scanStop, Reply.done])
  simp only [Machine.scanStop, Reply.done]
  unfold State.stopScan
  split
  · rename_i hs
    have hn := ha.quiet (.inr hs)
    rw [hn]
    refine State.reachStopped_agrees (ha.due (by simp [hs])) (ha.inFlight.trans hn) ?_
    by_contra hone
    have := ha.single (by simpa using hone)
    simp [hs] at this
  · dsimp only
    split
    · rename_i hs hj
      rw [ha.inFlight.symm.trans hj]
      exact State.reachStopped_agrees rfl hj rfl
    · exact ⟨ha.inFlight, fun _ => rfl, by simp, nofun, fun _ => nofun, nofun, nofun, .nil⟩
  · exact ha
  · exact ha

theorem ScanConsistent.tableCommit {s : State} (h : ScanConsistent s) :
    ScanConsistent (tableCommit s).state := by
  have ha := h.agrees
  unfold Machine.tableCommit
  split
  · exact h
  · split
    · exact h
    · dsimp only
      split
      · exact .of_agrees (s := s) (State.applyCommit_agrees ha) (by simp [Reply.done])
      · rename_i hs
        exact .of_agrees (s := s) ⟨ha.inFlight, ha.due, ha.quiet, ha.single, fun _ => hs,
          ha.running, ha.period, ha.sorted⟩ fun _ => rfl

theorem scanHeld_supersede (p : Fin 4) (d : DispatchContext) :
    scanHeld (d.supersede p).job = scanHeld d.job := by
  unfold DispatchContext.supersede
  cases d.job with
  | none => rfl
  | some j => simp only [Option.map_some]; split <;> rfl

theorem State.writeProfile_scanHeld (s : State) (p : Fin 4) (c : CellId) :
    scanHeld ((s.writeProfile p).job c) = scanHeld (s.job c) := by
  cases c <;> simp [State.writeProfile, State.job, scanHeld_supersede]

theorem ScanConsistent.rules (code : Byte) (s : State) (h : ScanConsistent s) :
    ScanConsistent (commandOf code s).state := by
  revert s
  apply commandOf_keeps (Q := fun rule => ∀ s, ScanConsistent s → ScanConsistent (rule s).state)
  case cellDisable =>
    exact ScanConsistent.acts.cellDisable (fun _ c h => h.removeDue c)
      (fun _ _ h => h.congr rfl rfl fun _ => rfl) fun _ h => h.completionCheck
  case scanConfig => exact fun _ h => h.scanConfig
  case scanStart => exact fun _ h => h.scanStart
  case scanOnce => exact fun _ h => h.scanOnce
  case scanStop => exact fun _ h => h.scanStop
  case entryWrite =>
    intro s h
    unfold Machine.entryWrite
    split
    · exact h
    · split
      · exact h
      · exact .of_agrees (s := s) (h.agrees.congr rfl rfl rfl rfl rfl rfl rfl rfl) fun _ => rfl
  case entryRead =>
    intro s h
    unfold Machine.entryRead
    split
    · exact .of_agrees (s := s) (h.agrees.congr rfl rfl rfl rfl rfl rfl rfl rfl) fun _ => rfl
    · exact h
  case tableRevert =>
    intro s h
    unfold Machine.tableRevert
    split
    · exact h
    · exact .of_agrees (s := s) (h.agrees.congr rfl rfl rfl rfl rfl rfl rfl rfl) fun _ => rfl
  case tableCommit => exact fun _ h => h.tableCommit
  case tableAbandon =>
    intro s h
    unfold Machine.tableAbandon
    split
    · exact .of_agrees (s := s) h.agrees.unpend fun _ => rfl
    · exact h
  case profileWrite =>
    intro s h
    unfold Machine.profileWrite
    split
    · exact h
    · split
      · exact h
      · exact h.congr (by simp [Reply.done]) (by simp [Reply.done])
          (State.writeProfile_scanHeld s _)
  case requestCancel =>
    refine requestCancel_keeps (fun s t e h => ?_) (fun _ _ _ h => h.congr rfl rfl fun _ => rfl)
      ScanConsistent.acts.cancelJob
    refine .of_agrees (s := s) ?_ fun c => by rw [State.job_eq_of_dispatch e.dispatch]
    rw [e.scan, e.timer]
    exact h.agrees.congr rfl rfl rfl rfl rfl rfl rfl rfl
  case eventAck =>
    intro s h
    exact .of_agrees (s := s) (h.agrees.congr rfl rfl rfl rfl rfl rfl rfl rfl) fun _ => rfl
  case softReset =>
    intro s _
    exact ⟨rfl, fun _ => rfl, fun _ => rfl, nofun, nofun, nofun, fun _ => rfl, .nil⟩
  case bad => intro _ _ h; exact h
  all_goals intro s h; exact h.congr (by simp) (by simp) (by simp)

theorem ScanConsistent.kept : KeptBySteps ScanConsistent where
  unread s t e h := by
    refine .of_agrees (s := s) ?_ fun c => by rw [State.job_eq_of_dispatch e.dispatch]
    rw [e.scan, e.timer]
    exact h.agrees.congr rfl rfl rfl rfl rfl rfl rfl rfl
  rules := ScanConsistent.rules
  deviceReset _ _ := ⟨rfl, fun _ => rfl, fun _ => rfl, nofun, nofun, nofun, fun _ => rfl, .nil⟩
  upperCrossing _ _ h := h.congr rfl rfl (by simp [State.upperCrossing])
  lowerCrossing := ScanConsistent.acts.lowerCrossing
  commitApply s h := by
    unfold State.commitApply
    split
    · exact .of_agrees (s := s) (State.applyCommit_agrees h.agrees) (by simp)
    · exact h
  arrival := ScanConsistent.acts.takeArrival
    (fun s h => by
      refine .of_agrees (s := s) (h.agrees.congr ?_ ?_ ?_ ?_ ?_ ?_ ?_ ?_) (by simp)
      all_goals unfold State.intervalTick; split <;> rfl)
    (fun s h => by
      refine .of_agrees (s := s) ?_ (by simp)
      unfold State.scanTimerExpiry
      split
      · refine State.cycleStartEvent_agrees ?_
        have ha := h.agrees
        exact ⟨ha.inFlight, ha.due, ha.quiet, ha.single, ha.pending, ha.running, fun _ => rfl,
          ha.sorted⟩
      · exact h.agrees)
    (fun s h => by
      refine .of_agrees (s := s) ?_ (by simp)
      unfold State.trigEdge
      split
      · dsimp only
        split
        · exact State.cycleStartEvent_agrees h.agrees
        · exact h.agrees
      · exact h.agrees)
  countTick _ _ h := h.congr rfl rfl fun _ => rfl

/-- Settles O7: each move of the registers keeps their agreement, and a scan job enters and leaves its
context with the count of the jobs in flight. -/
theorem stepKeepsScanConsistent : Obligations.StepKeepsScanConsistent :=
  fun _ _ h hs => ScanConsistent.kept.step h hs

end Sys2Proof.Machine
end

section
-- One declaration at a time: the stacks of parallel elaboration do not fit under the memory limit.
set_option Elab.async false
/-!
The ranges of the registers (O8), part by part: the scan tables through commits, the scan timer, the
channel records, the profiles with the jobs' copies and the cells' orders.
-/
namespace Sys2Proof.Machine

@[simp] theorem Reply.done_state (b0 b1 b2 b3 : Byte) (s : State) :
    (Reply.done b0 b1 b2 b3 s).state = s := rfl

@[simp] theorem Reply.refuse_state (st : CommandStatus) (b0 b1 b2 b3 : Byte) (s : State) :
    (Reply.refuse st b0 b1 b2 b3 s).state = s := rfl

/-! ### The parts -/

/-- The ranges of the scan tables. -/
structure TablesLegal (x : Scan) : Prop where
  active : ∀ i : Fin 16, (x.active[i]).failedCheck = none
  staging : x.commitPending = true → ∀ i : Fin 16, (x.staging[i]).failedCheck = none

/-- The ranges of the channel table. -/
structure ChannelsLegal (x : ChannelTable) : Prop where
  records : ∀ ch : Fin 10, (x.records[ch]).legal = true
  threshold : 1 ≤ x.threshold ∧ x.threshold ≤ 7

/-- The ranges of the scan timer. -/
def TimerLegal (x : ScanTimer) : Prop := x.period ≠ 0 ∧ x.pendingPeriod ≠ some 0

/-- The ranges of the copy in a job context. -/
def CopyLegal (j : Option Job) : Prop := j.all (fun j => j.copy.legal) = true

/-- The ranges of a cell's order. -/
def OrderLegal (k : Cell) : Prop := k.order.all Order.legal = true

theorem RangesHold.tables {s : State} (h : RangesHold s) : TablesLegal s.scan :=
  ⟨h.active, h.staging⟩

theorem RangesHold.channelTable {s : State} (h : RangesHold s) : ChannelsLegal s.channels :=
  ⟨h.channels, h.threshold⟩

theorem RangesHold.timer {s : State} (h : RangesHold s) : TimerLegal s.timer :=
  ⟨h.period, h.pendingPeriod⟩

theorem RangesHold.copy {s : State} (h : RangesHold s) (c : CellId) : CopyLegal (s.job c) :=
  h.copies c

theorem RangesHold.order {s : State} (h : RangesHold s) (c : CellId) : OrderLegal (s.cell c) :=
  h.orders c

/-- The ranges hold when those of the parts that moved do. -/
theorem RangesHold.of_parts {s t : State} (h : RangesHold s) (tables : TablesLegal t.scan)
    (timer : TimerLegal t.timer) (channels : ChannelsLegal t.channels)
    (copies : ∀ c, CopyLegal (t.job c)) (orders : ∀ c, OrderLegal (t.cell c))
    (profiles : t.profiles.records = s.profiles.records := by simp)
    (watermark : t.results.watermark = s.results.watermark := by simp)
    (queue : t.requests.queue.length ≤ s.requests.queue.length := by simp)
    (divider : t.timebase.divider = s.timebase.divider := by simp) : RangesHold t where
  profiles p := by unfold State.profile; rw [profiles]; exact h.profiles p
  channels := channels.records
  threshold := channels.threshold
  watermark := by rw [watermark]; exact h.watermark
  requests := queue.trans h.requests
  divider := by rw [divider]; exact h.divider
  period := timer.1
  pendingPeriod := timer.2
  active := tables.active
  staging := tables.staging
  copies := copies
  orders := orders

theorem RangesHold.congr {s t : State} (h : RangesHold s) (scan : t.scan = s.scan := by simp)
    (timer : t.timer = s.timer := by simp) (channels : t.channels = s.channels := by simp)
    (jobs : ∀ c, t.job c = s.job c := by simp) (cells : t.cells = s.cells := by simp)
    (profiles : t.profiles.records = s.profiles.records := by simp)
    (watermark : t.results.watermark = s.results.watermark := by simp)
    (queue : t.requests.queue.length ≤ s.requests.queue.length := by simp)
    (divider : t.timebase.divider = s.timebase.divider := by simp) : RangesHold t :=
  h.of_parts (scan ▸ h.tables) (timer ▸ h.timer) (channels ▸ h.channelTable)
    (fun c => by rw [jobs]; exact h.copy c)
    (fun c => by rw [State.cell_eq_of_cells cells]; exact h.order c) profiles watermark queue divider

/-- One cell moves. -/
theorem RangesHold.setCell {s : State} (h : RangesHold s) (c : CellId) {k : Cell}
    (hk : OrderLegal k) : RangesHold (s.setCell c k) :=
  h.of_parts h.tables h.timer h.channelTable (by simpa using h.copy)
    (CellId.all_of c (by simpa using hk) (by simpa using h.order c.other))

/-- One job moves. -/
theorem RangesHold.setJob {s : State} (h : RangesHold s) (c : CellId) {j : Option Job}
    (hj : CopyLegal j) : RangesHold (s.setJob c j) :=
  h.of_parts h.tables h.timer h.channelTable
    (CellId.all_of c (by simpa using hj) (by simpa using h.copy c.other))
    (by simpa using h.order)

/-- One channel record moves. -/
theorem RangesHold.setChannel {s : State} (h : RangesHold s) (ch : Fin 10) {r : ChannelRecord}
    (hr : r.legal = true) : RangesHold (s.setChannel ch r) := by
  refine h.of_parts h.tables h.timer ⟨fun d => ?_, h.threshold⟩ (by simpa using h.copy)
    (by simpa using h.order)
  have := s.channel_setChannel ch d r
  unfold State.channel at this
  rw [this]
  split
  · exact hr
  · exact h.channels d

/-! ### The scan tables -/

theorem TablesLegal.congr {x y : Scan} (h : TablesLegal x) (active : y.active = x.active)
    (staging : y.staging = x.staging) (pending : y.commitPending = x.commitPending) :
    TablesLegal y := by
  obtain ⟨ha, hs⟩ := h
  constructor <;> simpa only [active, staging, pending]

/-- A commit that is applied has passed its checks. -/
theorem State.applyCommit_tables {s : State}
    (h : ∀ i : Fin 16, (s.scan.staging[i]).failedCheck = none) : TablesLegal s.applyCommit.scan :=
  ⟨h, nofun⟩

theorem State.applyPending_tables {s : State} (h : TablesLegal s.scan) :
    TablesLegal s.applyPending.scan := by
  unfold State.applyPending
  split
  · exact State.applyCommit_tables (h.staging ‹_›)
  · exact h

theorem State.reachStopped_tables {s : State} (h : TablesLegal s.scan) :
    TablesLegal s.reachStopped.scan :=
  State.applyPending_tables (h.congr rfl rfl rfl)

theorem State.completionCheck_tables {s : State} (h : TablesLegal s.scan) :
    TablesLegal s.completionCheck.scan := by
  unfold State.completionCheck
  split
  · split
    · dsimp only
      split
      · exact State.reachStopped_tables (h.congr rfl rfl rfl)
      · exact h.congr rfl rfl rfl
    · exact h
  · split
    · exact State.reachStopped_tables h
    · exact h
  · exact h
  · exact h

theorem State.startCycle_tables {s : State} (h : TablesLegal s.scan) :
    TablesLegal s.startCycle.scan := by
  unfold State.startCycle
  dsimp only
  split
  · exact State.completionCheck_tables (h.congr (by simp) (by simp) (by simp))
  · exact h.congr (by simp) (by simp) (by simp)

theorem State.cycleStartEvent_tables {s : State} (h : TablesLegal s.scan) :
    TablesLegal s.cycleStartEvent.scan := by
  unfold State.cycleStartEvent
  split
  · exact State.startCycle_tables (State.applyPending_tables h)
  · exact h.congr rfl rfl rfl
  · exact h
  · exact h

theorem State.finishJob_tables {s : State} (c : CellId) (j : Job) (r : Record)
    (h : TablesLegal s.scan) : TablesLegal (s.finishJob c j r).scan := by
  cases ho : j.origin with
  | request tag => simpa [State.finishJob, ho] using h
  | scan i n =>
    simp only [State.finishJob, ho, State.setJob_scan]
    exact State.completionCheck_tables (h.congr (by simp) (by simp) (by simp))

/-- A staging table without a fault has passed every check. -/
theorem Scan.commitFault_none {x : Scan} (h : x.commitFault = none) (i : Fin 16) :
    (x.staging[i]).failedCheck = none := by
  have := List.findSome?_eq_none_iff.mp h i (List.mem_finRange i)
  simpa using this

/-! ### The scan timer -/

theorem TimerLegal.kept {t t' : ScanTimer} (h : TimerLegal t) (k : t.KeptOrStopped t') :
    TimerLegal t' := k.fine h.1 h.2

/-- The period in force after a reload is the pending one, or the old one. -/
theorem TimerLegal.reload {t : ScanTimer} (h : TimerLegal t) : TimerLegal t.reload := by
  refine ⟨?_, nofun⟩
  have hp := h.2
  unfold ScanTimer.reload
  cases ht : t.pendingPeriod with
  | none => exact h.1
  | some p =>
    rw [ht] at hp
    exact fun e => hp (congrArg some e)

/-! ### Channel health -/

theorem ChannelRecord.legal_iff {r : ChannelRecord} : r.legal = true ↔
    r.stalls ≤ 7 ∧ (r.lastLevel = none ↔ r.stalls = 0) ∧ (r.health = .good → r.stalls = 0) ∧
      (r.health = .suspect → r.stalls ≠ 0) := by
  unfold ChannelRecord.legal
  cases r.lastLevel <;> cases r.health <;> simp

theorem ChannelRecord.stalled_legal (n : Nat) (l : Level) {r : ChannelRecord}
    (h : r.legal = true) : (r.stalled n l).legal = true := by
  obtain ⟨h7, -, -, -⟩ := ChannelRecord.legal_iff.mp h
  have count : (r.stalled n l).stalls ≠ 0 := by
    change min 7 (r.stalls + 1) ≠ 0
    omega
  have last : (r.stalled n l).lastLevel = some l := rfl
  refine ChannelRecord.legal_iff.mpr ⟨Nat.min_le_left .., ?_, ?_, fun _ => count⟩
  · simp [last, count]
  · unfold ChannelRecord.stalled
    dsimp only
    split
    · nofun
    · split
      · nofun
      · exact fun hg => absurd hg ‹_›

theorem ChannelRecord.passed_legal (forced : Bool) (r : ChannelRecord) :
    (r.passed forced).legal = true := by
  refine ChannelRecord.legal_iff.mpr ⟨Nat.zero_le _, by simp [ChannelRecord.passed],
    fun _ => rfl, ?_⟩
  unfold ChannelRecord.passed
  dsimp only
  split <;> nofun

theorem RangesHold.updateHealth {s : State} (h : RangesHold s) (ch : Fin 10) (forced : Bool)
    (o : Outcome) : RangesHold (s.updateHealth ch forced o) := by
  unfold State.updateHealth
  split
  · rename_i l
    have hs := h.setChannel ch (ChannelRecord.stalled_legal s.channels.threshold l (h.channels ch))
    dsimp only
    split
    · split
      · exact hs.congr
      · exact hs.congr
    · exact hs
  · have hs := h.setChannel ch (ChannelRecord.passed_legal forced (s.channel ch))
    dsimp only
    split
    · exact hs.congr
    · exact hs

/-! ### Jobs and orders -/

theorem RangesHold.finishJob {s : State} (h : RangesHold s) (c : CellId) (j : Job) (r : Record) :
    RangesHold (s.finishJob c j r) :=
  h.of_parts (State.finishJob_tables c j r h.tables) (h.timer.kept (State.finishJob_timer c rfl j r))
    (by simpa using h.channelTable)
    (CellId.all_of c (by simp [CopyLegal]) (by simpa using h.copy c.other))
    (by simpa using h.order)
    (watermark := by obtain ⟨w, hr, -⟩ := s.finishJob_results c j r; rw [hr]; simp)

theorem RangesHold.claimed {s : State} (h : RangesHold s) (c : CellId) (w : Work) (v : Judgement) :
    RangesHold (((s.reserve v.slots).withdraw c w).setJob c (some (s.jobOf c w v))) := by
  have hw : RangesHold ((s.reserve v.slots).withdraw c w) := by
    unfold State.withdraw
    split
    · refine h.congr (jobs := fun _ => rfl) (queue := ?_)
      simpa using List.length_eraseP_le
    · exact h.of_parts (h.tables.congr rfl rfl rfl) h.timer h.channelTable h.copy h.order
  exact hw.setJob c (h.profiles w.profile)

theorem Cell.take_legal (k : Cell) {o : Order} (ho : o.legal = true) : OrderLegal (k.take o) := by
  unfold Cell.take
  dsimp only
  split <;> exact ho

theorem RangesHold.ordered {s : State} (h : RangesHold s) (c : CellId) {j : Job} (ch : Fin 10)
    (m : Averaging) (hj : s.job c = some j) : RangesHold (s.giveOrder c (orderOf ch j.copy m)) := by
  refine h.setCell c (Cell.take_legal _ (orderOf_legal _ _ ?_))
  have hc := h.copy c
  rw [hj] at hc
  exact hc

theorem RangesHold.acts : KeptByActs RangesHold fun _ => True where
  moved _ c _ e _ h := h.setCell c (by unfold OrderLegal; rw [e.sameStage.1]; exact h.order c)
  delivered _ c _ _ _ _ h := ⟨h.setCell c rfl, trivial⟩
  aborted s c h := by
    refine h.setCell c ?_
    unfold Cell.abort
    split
    · exact rfl
    · exact h.order c
  disabled _ c h := h.setCell c rfl
  restEnded _ c _ h := h.setCell c rfl
  ordered _ c _ ch m hj h := h.ordered c ch m hj
  opportunity _ _ _ h := h.congr
  health _ ch forced o h := h.updateHealth ch forced o
  offered _ _ _ _ _ _ _ h := h.congr
  reported _ _ _ _ _ _ _ h := h.congr
  paired s c j _ _ hj _ h := by
    have hc := h.copy c
    rw [hj] at hc
    exact h.setJob c hc
  completed _ c j _ _ _ _ h := h.finishJob c j _
  ended _ c j _ _ _ h := h.finishJob c j _
  released _ h := h.congr (watermark := by simp [State.release])
  claimed _ c w _ _ h := h.claimed c w _
  spent _ _ _ h := h.congr

/-! ### The profiles -/

theorem bitVec_sixteen_le (x : BitVec 16) : x.toNat ≤ 65535 := by have := x.isLt; omega

/-- An image without a fault gives a profile in range (R26, R31). -/
theorem profileOfImage_legal {img : Vector Byte 15} (g : BitVec 8)
    (h : profileFault img = none) : (profileOfImage img g).legal = true := by
  simp only [profileFault, List.find?_eq_none, List.mem_cons, List.not_mem_nil, or_false,
    Bool.not_eq_true, Bool.not_eq_false', forall_eq_or_imp, forall_eq] at h
  simp only [profileFieldInRange, decide_eq_true_eq] at h
  obtain ⟨-, h2, h3, h4, h5, h6, -, h8, -⟩ := h
  have b5 := bitVec_sixteen_le (le16 img[6] img[7])
  have b6 := bitVec_sixteen_le (le16 img[8] img[9])
  have b7 := bitVec_sixteen_le (le16 img[10] img[11])
  have b8 : profileNumber img 8 ≤ 255 := by
    have := img[12].isLt
    simp only [profileNumber]
    omega
  simp only [Profile.legal, Bool.and_eq_true, decide_eq_true_eq]
  exact ⟨⟨⟨⟨⟨⟨h2, h3⟩, h4⟩, h5, b5⟩, h6, b6⟩, b7⟩, h8, b8⟩

theorem copyLegal_supersede {p : Fin 4} {d : DispatchContext} (h : CopyLegal d.job) :
    CopyLegal (d.supersede p).job := by
  unfold DispatchContext.supersede CopyLegal at *
  cases hd : d.job with
  | none => rfl
  | some j =>
    rw [hd] at h
    simp only [Option.map_some]
    split <;> exact h

theorem RangesHold.writeProfile {s : State} (h : RangesHold s) (p : Fin 4)
    (ok : profileFault s.profiles.image = none) : RangesHold (s.writeProfile p) := by
  have jobs : ∀ c, CopyLegal ((s.writeProfile p).job c) := by
    intro c
    cases c
    · exact copyLegal_supersede (h.copy .a)
    · exact copyLegal_supersede (h.copy .b)
  refine ⟨fun q => ?_, h.channels, h.threshold, h.watermark, h.requests, h.divider, h.period,
    h.pendingPeriod, h.active, h.staging, jobs, h.orders⟩
  have hq := h.profiles q
  simp only [State.profile, State.writeProfile, State.invalidateProfile_frame, Fin.getElem_fin,
    Vector.getElem_set] at hq ⊢
  split
  · exact profileOfImage_legal _ ok
  · exact hq

/-! ### Commands -/

theorem RangesHold.channelSet {s : State} (h : RangesHold s) : RangesHold (channelSet s).state := by
  unfold Machine.channelSet
  split
  · rename_i ch enable _ _
    have hs : RangesHold (s.setChannel ch { s.channel ch with enabled := enable }) :=
      h.setChannel ch (h.channels ch)
    simp only [Reply.done, State.setEnabled]
    split
    · exact hs.congr
    · split
      · exact hs.congr
      · exact hs
  · exact h

theorem RangesHold.channelClearFault {s : State} (h : RangesHold s) :
    RangesHold (channelClearFault s).state := by
  unfold Machine.channelClearFault
  split
  · rename_i ch _
    have hs : RangesHold (s.setChannel ch
        { s.channel ch with health := .good, stalls := 0, lastLevel := none }) :=
      h.setChannel ch rfl
    simp only [Reply.done, State.clearFault]
    split
    · exact hs.congr
    · exact hs
  · exact h

theorem byte_pos {b : Byte} (h : b ≠ 0) : 1 ≤ b.toNat := by
  by_contra hn
  exact h (BitVec.eq_of_toNat_eq (Nat.lt_one_iff.mp (Nat.lt_of_not_le hn)))

theorem RangesHold.faultThreshold {s : State} (h : RangesHold s) :
    RangesHold (faultThreshold s).state := by
  unfold Machine.faultThreshold
  split
  · exact h
  · rename_i hn
    obtain ⟨h0, h7⟩ := not_or.mp hn
    have range := And.intro (byte_pos h0) (Nat.not_lt.mp h7)
    exact { h with threshold := range }

theorem RangesHold.resultWatermark {s : State} (h : RangesHold s) :
    RangesHold (resultWatermark s).state := by
  unfold Machine.resultWatermark
  split
  · exact h
  · rename_i hn
    obtain ⟨h0, h32⟩ := not_or.mp hn
    have range := And.intro (byte_pos h0) (Nat.not_lt.mp h32)
    exact { h with watermark := range }

theorem RangesHold.timebaseSet {s : State} (h : RangesHold s) :
    RangesHold (timebaseSet s).state := by
  unfold Machine.timebaseSet
  split
  · exact h
  · split
    · exact h
    · split
      · exact h
      · rename_i hd _
        have range := Nat.not_lt.mp hd
        exact { h with divider := range }

theorem RangesHold.handPeriod {s : State} (h : RangesHold s) {p : BitVec 16} (hp : p ≠ 0) :
    RangesHold (s.handPeriod p) := by
  refine h.of_parts h.tables ?_ h.channelTable h.copy h.order
  unfold State.handPeriod
  dsimp only
  split
  · exact ⟨hp, h.pendingPeriod⟩
  · exact ⟨h.period, by simpa using hp⟩

theorem RangesHold.scanConfig {s : State} (h : RangesHold s) :
    RangesHold (scanConfig s).state := by
  unfold Machine.scanConfig
  split
  · split
    · exact h
    · have hp : RangesHold (s.handPeriod s.arg01) := h.handPeriod ‹_›
      split
      · exact hp.of_parts (h.tables.congr rfl rfl rfl) hp.timer hp.channelTable hp.copy hp.order
      · split
        · exact hp
        · exact h
  · exact h

theorem RangesHold.stopScan {s : State} (h : RangesHold s) : RangesHold s.stopScan := by
  have stops : ∀ u : State, TablesLegal u.scan → TimerLegal u.timer →
      TablesLegal u.reachStopped.scan ∧ TimerLegal u.reachStopped.timer := fun u ht hi =>
    ⟨State.reachStopped_tables ht, hi.kept (State.reachStopped_timer rfl)⟩
  have parts : TablesLegal s.stopScan.scan ∧ TimerLegal s.stopScan.timer := by
    unfold State.stopScan
    split
    · exact stops _ h.tables h.timer
    · dsimp only
      split
      · exact stops _ (h.tables.congr rfl rfl rfl) h.timer
      · exact ⟨h.tables.congr rfl rfl rfl, h.timer⟩
    · exact ⟨h.tables, h.timer⟩
    · exact ⟨h.tables, h.timer⟩
  exact h.of_parts parts.1 parts.2 (by simpa using h.channelTable) (by simpa using h.copy)
    (by simpa using h.order)

/-- Whatever moves in the tables and the timer of the scan alone. -/
theorem RangesHold.of_scan {s t : State} (h : RangesHold s) (tables : TablesLegal t.scan)
    (timer : TimerLegal t.timer) (channels : t.channels = s.channels := by simp)
    (jobs : ∀ c, t.job c = s.job c := by simp) (cells : t.cells = s.cells := by simp)
    (profiles : t.profiles.records = s.profiles.records := by simp)
    (watermark : t.results.watermark = s.results.watermark := by simp)
    (queue : t.requests.queue.length ≤ s.requests.queue.length := by simp)
    (divider : t.timebase.divider = s.timebase.divider := by simp) : RangesHold t :=
  h.of_parts tables timer (channels ▸ h.channelTable) (fun c => by rw [jobs]; exact h.copy c)
    (fun c => by rw [State.cell_eq_of_cells cells]; exact h.order c) profiles watermark queue divider

theorem RangesHold.startCycle {s : State} (h : RangesHold s) : RangesHold s.startCycle := by
  refine h.of_scan (State.startCycle_tables h.tables) ?_
  unfold State.startCycle
  dsimp only
  split
  · exact h.timer.kept (State.completionCheck_timer (by simp))
  · simpa using h.timer

theorem RangesHold.cycleStartEvent {s : State} (h : RangesHold s) :
    RangesHold s.cycleStartEvent :=
  h.of_scan (State.cycleStartEvent_tables h.tables)
    (h.timer.kept (State.cycleStartEvent_timer rfl))

theorem RangesHold.entryWrite {s : State} (h : RangesHold s) :
    RangesHold (entryWrite s).state := by
  unfold Machine.entryWrite
  split
  · exact h
  · split
    · exact h
    · rename_i hn
      exact h.of_scan ⟨h.active, fun hp => absurd hp hn⟩ h.timer

theorem RangesHold.tableCommit {s : State} (h : RangesHold s) :
    RangesHold (tableCommit s).state := by
  unfold Machine.tableCommit
  split
  · exact h
  · split
    · exact h
    · rename_i hf
      dsimp only
      split
      · exact h.of_scan (State.applyCommit_tables (Scan.commitFault_none hf)) h.timer
      · exact h.of_scan ⟨h.active, fun _ => Scan.commitFault_none hf⟩ h.timer

theorem RangesHold.submit {s : State} (h : RangesHold s) (hn : s.requests.queue.length < 8)
    (r : Request) : RangesHold (s.submit r) := by
  have hq : RangesHold { s with requests :=
      { s.requests with queue := s.requests.queue ++ [r] } } :=
    { h with requests := by simpa using Nat.succ_le_of_lt hn }
  exact hq.congr (jobs := fun _ => by rw [State.submit, State.offer_keeps_job])
    (cells := by simp [State.submit]) (queue := by simp [State.submit])

theorem RangesHold.requestSubmit {s : State} (h : RangesHold s) :
    RangesHold (requestSubmit s).state := by
  unfold Machine.requestSubmit
  dsimp only
  split
  · exact h
  · exact h
  · exact h
  · split
    · exact h
    · split
      · exact h
      · rename_i hn
        exact h.submit (Nat.not_le.mp hn) _

theorem RangesHold.softReset {s : State} (h : RangesHold s) : RangesHold s.softReset := by
  refine ⟨h.profiles, fun ch => ?_, h.threshold, h.watermark, Nat.zero_le _, h.divider, h.period,
    nofun, h.active, nofun, ?_, ?_⟩
  · simp only [State.softReset, State.channel, Fin.getElem_fin, Vector.getElem_ofFn]
    rfl
  · rintro (_ | _) <;> rfl
  · rintro (_ | _) <;> rfl

theorem RangesHold.unread (s t : State) (e : SameRegisters s t) (h : RangesHold s) :
    RangesHold t :=
  h.of_scan (by rw [e.scan]; exact h.tables.congr rfl rfl rfl) (e.timer ▸ h.timer) e.channels
    (State.job_eq_of_dispatch e.dispatch) e.cells e.profiles (by rw [e.results])
    (by rw [e.queue]) e.divider

theorem RangesHold.rules (code : Byte) (s : State) (h : RangesHold s) :
    RangesHold (commandOf code s).state := by
  revert s
  apply commandOf_keeps (Q := fun rule => ∀ s, RangesHold s → RangesHold (rule s).state)
  case cellEnable =>
    intro s h
    unfold Machine.cellEnable
    split
    · exact h
    · refine h.setCell _ ?_
      unfold Cell.enable
      split
      · exact h.order _
      · exact h.order _
  case cellDisable =>
    exact RangesHold.acts.cellDisable
      (fun _ _ h => h.of_scan (h.tables.congr rfl rfl rfl) h.timer) (fun _ _ h => h.congr)
      (fun _ h => h.of_scan (State.completionCheck_tables h.tables)
        (h.timer.kept (State.completionCheck_timer rfl)))
  case channelSet => exact fun _ h => h.channelSet
  case channelClearFault => exact fun _ h => h.channelClearFault
  case faultThreshold => exact fun _ h => h.faultThreshold
  case timebaseSet => exact fun _ h => h.timebaseSet
  case scanConfig => exact fun _ h => h.scanConfig
  case scanStart =>
    intro s h
    unfold Machine.scanStart
    split
    · refine h.of_scan (h.tables.congr rfl rfl rfl) ?_
      simp only [Reply.done, State.startScan]
      split <;> exact h.timer
    · exact h
  case scanOnce =>
    intro s h
    unfold Machine.scanOnce
    split
    · have hm : RangesHold (s.setScan { s.scan with single := true }) :=
        h.of_scan (h.tables.congr rfl rfl rfl) h.timer
      exact hm.startCycle
    · exact h
  case scanStop => exact fun _ h => h.stopScan
  case entryWrite => exact fun _ h => h.entryWrite
  case entryRead =>
    intro s h
    unfold Machine.entryRead
    split
    · exact h.of_scan (h.tables.congr rfl rfl rfl) h.timer
    · exact h
  case tableRevert =>
    intro s h
    unfold Machine.tableRevert
    split
    · exact h
    · exact h.of_scan ⟨h.active, fun _ => h.active⟩ h.timer
  case tableCommit => exact fun _ h => h.tableCommit
  case tableAbandon =>
    intro s h
    unfold Machine.tableAbandon
    split
    · exact h.of_scan ⟨h.active, nofun⟩ h.timer
    · exact h
  case profileWrite =>
    intro s h
    unfold Machine.profileWrite
    split
    · exact h
    · split
      · exact h
      · exact h.writeProfile _ ‹_›
  case requestSubmit => exact fun _ h => h.requestSubmit
  case requestCancel =>
    exact requestCancel_keeps RangesHold.unread (fun _ _ hq h => h.congr (jobs := fun _ => rfl) (queue := hq))
      RangesHold.acts.cancelJob
  case requestFlush => exact fun _ h => { h with requests := Nat.zero_le _ }
  case resultPop =>
    intro s h
    unfold Machine.resultPop
    split
    · exact h
    · exact h.congr (jobs := fun d => by rw [Reply.done_state, State.offerBoth_keeps_job]; rfl)
  case resultFlush =>
    intro s h
    unfold Machine.resultFlush
    simp only [Reply.done_state]
    split
    · exact h.congr (jobs := fun _ => rfl)
    · exact h.congr (jobs := fun d => by rw [State.offerBoth_keeps_job]; rfl)
  case resultWatermark => exact fun _ h => h.resultWatermark
  case eventAck =>
    exact fun s h => h.of_scan (h.tables.congr rfl rfl rfl) h.timer rfl (fun _ => rfl) rfl rfl rfl
      le_rfl rfl
  case softReset => exact fun _ h => h.softReset
  case bad => intro _ _ h; exact h
  all_goals intro s h; exact h.congr

theorem State.reset_ranges : RangesHold State.reset where
  profiles := by decide
  channels := by decide
  threshold := by decide
  watermark := by decide
  requests := Nat.zero_le _
  divider := by decide
  period := by decide
  pendingPeriod := nofun
  active := by decide
  staging := nofun
  copies := by rintro (_ | _) <;> rfl
  orders := by rintro (_ | _) <;> rfl

theorem State.deviceReset_ranges (s : State) : RangesHold s.deviceReset :=
  { State.reset_ranges with orders := by rintro (_ | _) <;> rfl }

theorem RangesHold.kept : KeptBySteps RangesHold where
  unread := RangesHold.unread
  rules := RangesHold.rules
  deviceReset s _ := s.deviceReset_ranges
  upperCrossing s c h := by
    refine h.setCell c ?_
    unfold OrderLegal
    rw [(s.cell c).upperCrossing_sameStage.1]
    exact h.order c
  lowerCrossing := RangesHold.acts.lowerCrossing
  commitApply s h := by
    unfold State.commitApply
    split
    · rename_i hc
      exact h.of_scan (State.applyCommit_tables (h.staging hc.1)) h.timer
    · exact h
  arrival := RangesHold.acts.takeArrival
    (fun s h => by
      unfold State.intervalTick
      split
      · exact h.of_scan h.tables h.timer (jobs := fun _ => rfl)
      · exact h)
    (fun s h => by
      unfold State.scanTimerExpiry
      split
      · have hr : RangesHold { s with timer := s.timer.reload } :=
          h.of_scan h.tables h.timer.reload (jobs := fun _ => rfl)
        exact hr.cycleStartEvent
      · exact h)
    (fun s h => by
      unfold State.trigEdge
      split
      · have hr : RangesHold { s with trig := { s.trig with
            filtered := s.trig.filtered.flip, confirming := 0 } } := h.congr (jobs := fun _ => rfl)
        dsimp only
        split
        · exact hr.cycleStartEvent
        · exact hr
      · exact h)
  countTick s l h := by
    refine h.of_parts h.tables h.timer h.channelTable h.copy fun c => ?_
    rw [State.countTick_cell]
    exact h.order c

/-- Settles O8: each command checks what it writes, and a pending commit has passed its checks. -/
theorem stepKeepsRanges : Obligations.StepKeepsRanges := fun _ _ h hs => RangesHold.kept.step h hs

end Sys2Proof.Machine
end

section
-- One declaration at a time: the stacks of parallel elaboration do not fit under the memory limit.
set_option Elab.async false
/-!
Readings are never 0 (O9): each completed sample adds at least 1 to the accumulator, so that the mean
of M samples is at least 1; from there a reading goes to the reference cache, to a job's pairing value
and to the records.
-/
namespace Sys2Proof.Machine

/-! ### Samples -/

/-- An event of a cell that keeps the samples counted in the accumulator, or delivers an outcome
whose raw value is not 0. -/
def SoundResult (r : Cell × Option Outcome) : Prop :=
  (r.2 = none → r.1.samplesDone ≤ r.1.accumulator) ∧ ∀ o, r.2 = some o → o.raw ≠ some 0

theorem SoundResult.of_none {k : Cell} (h : k.samplesDone ≤ k.accumulator) :
    SoundResult (k, none) := ⟨fun _ => h, nofun⟩

theorem SoundResult.of_some (k : Cell) {o : Outcome} (h : o.raw ≠ some 0) :
    SoundResult (k, some o) := ⟨nofun, by rintro _ ⟨⟩; exact h⟩

/-- The last sample: the mean of M samples that are each at least 1. -/
theorem SoundResult.last {k k' : Cell} (o : Order) {raw n : Nat}
    (h : k.samplesDone ≤ k.accumulator) (hr : 1 ≤ raw) (hl : ¬ k.samplesDone + 1 < o.m.toNat) :
    SoundResult (k', some (.ok n ((k.accumulator + raw) / o.m.toNat))) := by
  have mean : 1 ≤ (k.accumulator + raw) / o.m.toNat :=
    (Nat.one_le_div_iff o.m.toNat_pos).mpr (by omega)
  refine .of_some _ ?_
  simp only [Outcome.raw, ne_eq, Option.some.injEq]
  omega

/-- A sample that completes with a raw value of at least 1. -/
theorem SoundResult.completeSample {k : Cell} (o : Order) {raw : Nat}
    (h : k.samplesDone ≤ k.accumulator) (hr : 1 ≤ raw) :
    SoundResult (k.completeSample o raw) := by
  by_cases hl : k.samplesDone + 1 < o.m.toNat
  · rw [Cell.completeSample_more _ hl]
    exact .of_none (Nat.add_le_add h hr)
  · rw [Cell.completeSample_last _ hl]
    exact .last o h hr hl

theorem Cell.beginSample_counts (d : Nat) (o : Order) (k : Cell) :
    (k.beginSample d o).samplesDone = k.samplesDone ∧
      (k.beginSample d o).accumulator = k.accumulator := by
  unfold Cell.beginSample
  split <;> exact ⟨rfl, rfl⟩

theorem SoundResult.settleCrossing {k : Cell} (d : Nat) (o : Order)
    (h : k.samplesDone ≤ k.accumulator) : SoundResult (k.settleCrossing d o, none) := by
  refine .of_none ?_
  unfold Cell.settleCrossing Cell.endSettle
  dsimp only
  split <;> split <;> first
    | exact h
    | rw [(Cell.beginSample_counts ..).1, (Cell.beginSample_counts ..).2]; exact h

theorem SoundResult.countCrossing {k : Cell} (d : Nat) (o : Order)
    (h : k.samplesDone ≤ k.accumulator) : SoundResult (k.countCrossing d o) := by
  unfold Cell.countCrossing
  dsimp only
  split
  · split
    · exact .of_some _ nofun
    · exact .of_none h
  all_goals exact .of_none h

theorem SoundResult.periodCrossing {k : Cell} (d : Nat) (o : Order)
    (h : k.samplesDone ≤ k.accumulator)
    (hv : ¬ k.crossings + 1 < o.cycles → k.phaseTimer.value ≠ 0) :
    SoundResult (k.periodCrossing d o) := by
  unfold Cell.periodCrossing
  dsimp only
  split
  · exact .of_none h
  · rename_i hc
    have hr : 1 ≤ min k.phaseTimer.value Config.maxTicks := by
      have := hv hc
      simp only [Config.maxTicks]
      omega
    by_cases hl : k.samplesDone + 1 < o.m.toNat
    · rw [Cell.completeSample_more _ (by exact hl)]
      refine .of_none ?_
      rw [(Cell.beginSample_counts ..).1, (Cell.beginSample_counts ..).2]
      exact Nat.add_le_add h hr
    · rw [Cell.completeSample_last _ (by exact hl)]
      exact .last o h hr hl

theorem SoundResult.dischargeCrossing {k : Cell} (o : Order) (h : k.samplesDone ≤ k.accumulator)
    (hv : k.phaseTimer.value ≠ 0) : SoundResult (k.dischargeCrossing o) := by
  have hr := Nat.one_le_iff_ne_zero.mpr hv
  unfold Cell.dischargeCrossing
  by_cases hl : k.samplesDone + 1 < o.m.toNat
  · rw [Cell.completeSample_more _ hl]
    exact .of_none (Nat.add_le_add h hr)
  · rw [Cell.completeSample_last _ hl]
    exact .last o h hr hl

/-- No crossing that occurs ends a sample at the tick it began (log 13). -/
theorem Cell.coincides_measuring {k : Cell} {o : Order} (h : k.coincides = false)
    (hs : k.state = .measuring) (ho : k.order = some o) (hm : o.method ≠ .count) :
    ¬ k.crossings + 1 < o.cycles → k.phaseTimer.value ≠ 0 := by
  unfold Cell.coincides at h
  simp only [hs, ho] at h
  intro hc hv
  simp [hm, hv] at h
  exact hc h

theorem Cell.coincides_discharging {k : Cell} {o : Order} (h : k.coincides = false)
    (hs : k.state = .discharging) (ho : k.order = some o) : k.phaseTimer.value ≠ 0 := by
  unfold Cell.coincides at h
  simpa [hs, ho] using h

theorem SoundResult.lowerCrossing {k : Cell} (d : Nat) (h : k.samplesDone ≤ k.accumulator) :
    SoundResult (k.lowerCrossing d) := by
  by_cases hl : k.level = .high ∧ k.coincides = false
  · cases ho : k.order with
    | none =>
      rw [Cell.lowerCrossing_other d hl (.inl ho)]
      exact .of_none h
    | some o =>
      cases hs : k.state
      case starting =>
        rw [Cell.lowerCrossing_starting d hl hs ho]
        exact .settleCrossing d o h
      case measuring =>
        by_cases hm : o.method = .count
        · rw [Cell.lowerCrossing_counting d hl hs ho hm]
          exact .countCrossing d o h
        · rw [Cell.lowerCrossing_timing d hl hs ho hm]
          exact .periodCrossing d o h (Cell.coincides_measuring hl.2 hs ho hm)
      case discharging =>
        rw [Cell.lowerCrossing_discharging d hl hs ho]
        exact .dischargeCrossing o h (Cell.coincides_discharging hl.2 hs ho)
      all_goals
        rw [Cell.lowerCrossing_other d hl (.inr (by simp [hs]))]
        exact .of_none h
  · rw [Cell.lowerCrossing_ignored d hl]
    exact .of_none h

theorem SoundResult.expireGate {k : Cell} (due : k.gateDue = true)
    (h : k.samplesDone ≤ k.accumulator) : SoundResult k.expireGate := by
  obtain ⟨o, ho, -⟩ := Cell.gateDue_iff.mp due
  rw [Cell.expireGate_order ho]
  split
  · exact .of_some _ nofun
  · rename_i hc
    have hk : SoundResult (({ k with phaseTimer := .stopped }).completeSample o k.crossings) :=
      .completeSample o h (Nat.one_le_iff_ne_zero.mpr hc)
    exact hk

theorem Cell.OwnEvent.sound {d : Nat} {k : Cell} {r : Cell × Option Outcome} (e : k.OwnEvent d r)
    (h : k.samplesDone ≤ k.accumulator) : SoundResult r := by
  cases e with
  | lower => exact .lowerCrossing d h
  | gate due => exact .expireGate due h
  | precharge =>
    unfold Cell.releaseCapacitor
    split
    · exact .of_some _ nofun
    · exact .of_none h
  | overflow => exact .of_some _ nofun
  | stall => exact .of_some _ nofun

/-! ### Where readings are held -/

theorem Record.readingsLegal_iff {r : Record} : r.readingsLegal = true ↔ r.raw ≠ some 0 ∧
    ∀ q, r.ratio = some q → r.status = .ok ∧ r.channel.val < 8 ∧ r.raw.isSome = true ∧
      q.reference ≠ 0 := by
  unfold Record.readingsLegal
  cases r.ratio <;> simp [and_assoc]

theorem Job.readingsLegal_iff {j : Job} : j.readingsLegal = true ↔
    j.pairing ≠ some 0 ∧ (j.ratio = true → j.channel.val < 8) := by
  unfold Job.readingsLegal
  cases j.ratio <;> simp

theorem ReferenceRecord.readingLegal_iff {r : ReferenceRecord} : r.readingLegal = true ↔
    (r.valid = true → r.raw ≠ 0) := by
  unfold ReferenceRecord.readingLegal
  cases r.valid <;> simp

theorem ReadingsPositive.jobLegal {s : State} (h : ReadingsPositive s) {c : CellId} {j : Job}
    (hj : s.job c = some j) : j.readingsLegal = true := by
  have := h.jobs c
  rw [hj] at this
  exact this

theorem ReadingsPositive.summed {s : State} (h : ReadingsPositive s) (c : CellId) :
    (s.cell c).samplesDone ≤ (s.cell c).accumulator := by
  simpa [Cell.samplesLegal] using h.cells c

/-- Readings stay where they are, or go. -/
theorem ReadingsPositive.congr {s t : State} (h : ReadingsPositive s)
    (records : ∀ r ∈ t.results.records, r ∈ s.results.records := by simp)
    (jobs : ∀ c, t.job c = s.job c := by simp)
    (references : ∀ c p, t.reference c p = s.reference c p ∨
      t.reference c p = ReferenceRecord.invalid := by simp)
    (cells : ∀ c, t.cell c = s.cell c := by simp [State.cell]) : ReadingsPositive t where
  records := List.all_eq_true.mpr fun r hr => List.all_eq_true.mp h.records r (records r hr)
  jobs c := by rw [jobs]; exact h.jobs c
  references c p := by
    obtain e | e := references c p <;> rw [e]
    · exact h.references c p
    · rfl
  cells c := by rw [cells]; exact h.cells c

theorem ReadingsPositive.setCell {s : State} (h : ReadingsPositive s) (c : CellId) {k : Cell}
    (hk : k.samplesDone ≤ k.accumulator) : ReadingsPositive (s.setCell c k) where
  records := h.records
  jobs := by simpa using h.jobs
  references := h.references
  cells := CellId.all_of c (by simpa [Cell.samplesLegal] using hk) (by simpa using h.cells c.other)

theorem ReadingsPositive.setJob {s : State} (h : ReadingsPositive s) (c : CellId) {j : Option Job}
    (hj : j.all Job.readingsLegal = true) : ReadingsPositive (s.setJob c j) where
  records := h.records
  jobs := CellId.all_of c (by simpa using hj) (by simpa using h.jobs c.other)
  references := h.references
  cells := h.cells

theorem ReadingsPositive.setReference {s : State} (h : ReadingsPositive s) (c : CellId) (p : Fin 4)
    {r : ReferenceRecord} (hr : r.readingLegal = true) :
    ReadingsPositive (s.setReference c p r) where
  records := h.records
  jobs := h.jobs
  references d q := by
    rw [State.reference_setReference]
    split
    · exact hr
    · exact h.references d q
  cells := h.cells

theorem ReadingsPositive.append {s : State} (h : ReadingsPositive s) {r : Record}
    (hr : r.readingsLegal = true) : ReadingsPositive (s.append r) where
  records := by
    simp only [State.append_results, List.all_append, h.records, Bool.true_and, List.all_cons,
      List.all_nil, Bool.and_true]
    exact hr
  jobs := by simpa using h.jobs
  references := by simpa using h.references
  cells := by simpa using h.cells

/-- A record that ends a job, and its mark. -/
theorem ReadingsPositive.finishJob {s : State} (h : ReadingsPositive s) (c : CellId) (j : Job)
    {r : Record} (hr : r.readingsLegal = true) : ReadingsPositive (s.finishJob c j r) := by
  obtain ⟨w, hw, -⟩ := s.finishJob_results c j r
  have ha : ReadingsPositive (s.append { r with transition := w }) := h.append hr
  exact {
    records := by rw [hw]; exact ha.records
    jobs := CellId.all_of c (by simp) (by simpa using h.jobs c.other)
    references := by simpa using h.references
    cells := by simpa using h.cells }

/-! ### The records of a job -/

theorem Job.mainRecord_legal {j : Job} {o : Outcome} (now : BitVec 32)
    (hj : j.readingsLegal = true) (ho : o.raw ≠ some 0) :
    (j.mainRecord o now).readingsLegal = true := by
  obtain ⟨hp, hc⟩ := Job.readingsLegal_iff.mp hj
  refine Record.readingsLegal_iff.mpr ⟨ho, fun q hq => ?_⟩
  unfold Job.mainRecord at hq ⊢
  dsimp only at hq ⊢
  split at hq
  · rename_i raw reference hr hraw href
    have hq := Option.some.inj hq
    refine ⟨?_, hc hr, by rw [hraw]; rfl, ?_⟩
    · cases o <;> first | rfl | cases hraw
    · subst hq
      rw [href] at hp
      exact fun e => hp (congrArg some e)
  · cases hq

theorem Job.endRecord_legal (j : Job) (st : RecordStatus) (now : BitVec 32) :
    (j.endRecord st now).readingsLegal = true := rfl

theorem Job.reportRecord_legal (j : Job) (c : CellId) {o : Outcome} (now : BitVec 32)
    (ho : o.raw ≠ some 0) : (j.reportRecord c o now).readingsLegal = true :=
  Record.readingsLegal_iff.mpr ⟨ho, nofun⟩

/-! ### The acts -/

theorem ReadingsPositive.offerReference {s : State} (h : ReadingsPositive s) (c : CellId) (j : Job)
    {o : Outcome} (n : Nat) (ho : o.raw ≠ some 0) : ReadingsPositive (s.offerReference c j o n) := by
  unfold State.offerReference
  split
  · split
    · refine h.setReference c _ (ReferenceRecord.readingLegal_iff.mpr fun _ e => ho ?_)
      exact congrArg some e
    · exact h
  · exact h.setReference c _ rfl

/-- The health update may invalidate a cell's records, and moves no other reading. -/
theorem State.updateHealth_reference (s : State) (ch : Fin 10) (forced : Bool) (o : Outcome)
    (c : CellId) (p : Fin 4) : (s.updateHealth ch forced o).reference c p = s.reference c p ∨
      (s.updateHealth ch forced o).reference c p = ReferenceRecord.invalid := by
  unfold State.updateHealth
  split
  · dsimp only
    split
    · split
      · rw [State.reference_invalidateCell]
        split
        · exact .inr rfl
        · exact .inl rfl
      · exact .inl rfl
    · exact .inl rfl
  · dsimp only
    split
    · exact .inl (by simp)
    · exact .inl rfl

/-- A job takes over a fresh record's reading (R121). -/
theorem State.jobOf_readingsLegal {s : State} (h : ReadingsPositive s) (c : CellId) (w : Work) :
    (s.jobOf c w (s.judge c w)).readingsLegal = true := by
  refine Job.readingsLegal_iff.mpr ⟨?_, ?_⟩
  · unfold State.jobOf
    dsimp only
    split
    swap
    · exact nofun
    rename_i hv
    have fresh : s.fresh c w.profile = true := by
      unfold State.judge at hv
      dsimp only at hv
      (repeat' split at hv) <;> first | assumption | cases hv
    have valid : (s.reference c w.profile).valid = true := by
      simp only [State.fresh, Bool.and_eq_true] at fresh
      obtain ⟨⟨⟨⟨hv, -⟩, -⟩, -⟩, -⟩ := fresh
      exact hv
    have := ReferenceRecord.readingLegal_iff.mp (h.references c w.profile) valid
    exact fun e => this (Option.some.inj e)
  · intro hr
    simpa [State.jobOf, isReference] using (Bool.and_eq_true_iff.mp hr).2

theorem ReadingsPositive.acts : KeptByActs ReadingsPositive fun o => o.raw ≠ some 0 where
  moved _ c _ e hn h := h.setCell c ((e.sound (h.summed c)).1 hn)
  delivered _ c _ _ e ho h := ⟨h.setCell c le_rfl, (e.sound (h.summed c)).2 _ ho⟩
  aborted s c h := by
    refine h.setCell c ?_
    unfold Cell.abort
    split
    · exact le_rfl
    · exact h.summed c
  disabled _ c h := h.setCell c le_rfl
  restEnded _ c _ h := h.setCell c (h.summed c)
  ordered s c j ch m _ h := by
    refine h.setCell c ?_
    unfold Cell.take
    dsimp only
    split <;> exact le_rfl
  opportunity _ _ _ h := h.congr
  health s ch forced o h := h.congr (references := s.updateHealth_reference ch forced o)
  offered _ c j _ n _ ho h := h.offerReference c j n ho
  reported _ c j _ now _ ho h := h.append (j.reportRecord_legal c now ho)
  paired s c j n raw hj ho h := by
    refine h.setJob c (Job.readingsLegal_iff.mpr ⟨fun e => ho ?_, ?_⟩)
    · exact congrArg some (Option.some.inj e)
    · exact (Job.readingsLegal_iff.mp (h.jobLegal hj)).2
  completed _ c j _ now hj ho h := h.finishJob c j (Job.mainRecord_legal now (h.jobLegal hj) ho)
  ended _ c j st now _ h := h.finishJob c j (j.endRecord_legal st now)
  released _ h := h.congr (by simp [State.release])
  claimed s c w _ _ h := by
    have hw : ReadingsPositive ((s.reserve (s.judge c w).slots).withdraw c w) := h.congr
    exact hw.setJob c (s.jobOf_readingsLegal h c w)
  spent _ c p h := h.setReference c p (h.references c p)

/-! ### Commands and arrivals -/

theorem readingsLegal_supersede {p : Fin 4} {d : DispatchContext}
    (h : d.job.all Job.readingsLegal = true) :
    (d.supersede p).job.all Job.readingsLegal = true := by
  unfold DispatchContext.supersede
  cases hd : d.job with
  | none => rfl
  | some j =>
    rw [hd] at h
    simp only [Option.map_some]
    split <;> exact h

theorem ReadingsPositive.writeProfile {s : State} (h : ReadingsPositive s) (p : Fin 4) :
    ReadingsPositive (s.writeProfile p) := by
  have hs : ReadingsPositive { s with
      profiles := { s.profiles with
        records := s.profiles.records.set p
          (profileOfImage s.profiles.image ((s.profile p).generation + 1)) }
      dispatch := ⟨s.dispatch.a.supersede p, s.dispatch.b.supersede p⟩ } := by
    refine ⟨h.records, fun c => ?_, h.references, h.cells⟩
    cases c
    · exact readingsLegal_supersede (h.jobs .a)
    · exact readingsLegal_supersede (h.jobs .b)
  have ha := hs.setReference .a p (r := ReferenceRecord.invalid) rfl
  exact ha.setReference .b p rfl

theorem ReadingsPositive.setEnabled {s : State} (h : ReadingsPositive s) (ch : Fin 10) (e : Bool) :
    ReadingsPositive (s.setEnabled ch e) := by
  refine h.congr (references := fun c p => ?_)
  unfold State.setEnabled
  dsimp only
  split
  · rw [State.reference_invalidateCell]
    split
    · exact .inr rfl
    · exact .inl rfl
  · split
    · exact .inl (by simp)
    · exact .inl rfl

theorem State.reset_readings : ReadingsPositive State.reset where
  records := rfl
  jobs := by rintro (_ | _) <;> rfl
  references := by rintro (_ | _) <;> decide
  cells := by rintro (_ | _) <;> rfl

theorem ReadingsPositive.rules (code : Byte) (s : State) (h : ReadingsPositive s) :
    ReadingsPositive (commandOf code s).state := by
  revert s
  apply commandOf_keeps (Q := fun rule => ∀ s, ReadingsPositive s → ReadingsPositive (rule s).state)
  case cellEnable =>
    intro s h
    unfold Machine.cellEnable
    split
    · exact h
    · refine h.setCell _ ?_
      unfold Cell.enable
      split
      · exact h.summed _
      · exact h.summed _
  case cellDisable =>
    refine ReadingsPositive.acts.cellDisable (fun _ _ h => h.congr) (fun s c h => ?_)
      fun _ h => h.congr
    refine h.congr (references := fun d p => ?_)
    rw [State.reference_invalidateCell]
    split
    · exact .inr rfl
    · exact .inl rfl
  case channelSet =>
    intro s h
    unfold Machine.channelSet
    split
    · exact h.setEnabled _ _
    · exact h
  case timebaseSet =>
    intro s h
    unfold Machine.timebaseSet
    split
    · exact h
    · split
      · exact h
      · split
        · exact h
        · exact h.congr (by simp) (by simp) (fun _ _ => .inr (by simp [State.setTimebase]))
  case profileWrite =>
    intro s h
    unfold Machine.profileWrite
    split
    · exact h
    · split
      · exact h
      · exact h.writeProfile _
  case referenceInvalidate =>
    exact fun s h => h.congr (references := fun _ _ => .inr (State.reference_invalidateAll ..))
  case requestCancel =>
    exact requestCancel_keeps
      (fun s t e h => h.congr (by rw [e.results]; simp) (State.job_eq_of_dispatch e.dispatch)
        (fun c p => .inl (by rw [State.reference, e.references]; rfl))
        (State.cell_eq_of_cells e.cells))
      (fun _ _ _ h => h.congr (by simp) (fun _ => rfl) (fun _ _ => .inl rfl))
      ReadingsPositive.acts.cancelJob
  case resultPop =>
    intro s h
    unfold Machine.resultPop
    split
    · exact h
    · rename_i head tail hr
      exact h.congr (by simp only [Reply.done_state, State.offerBoth_frame, hr]; simp +contextual)
        (fun d => by rw [Reply.done_state, State.offerBoth_keeps_job]; rfl)
        (fun _ _ => .inl (by simp; rfl))
  case resultFlush =>
    intro s h
    unfold Machine.resultFlush
    simp only [Reply.done_state]
    split
    · exact h.congr (by simp) (fun _ => rfl) (fun _ _ => .inl rfl)
    · exact h.congr (by simp) (fun d => by rw [State.offerBoth_keeps_job]; rfl)
        (fun _ _ => .inl (by simp; rfl))
  case softReset =>
    intro s _
    exact { State.reset_readings with cells := by rintro (_ | _) <;> rfl }
  case bad => intro _ _ h; exact h
  all_goals intro s h; exact h.congr

theorem ReadingsPositive.kept : KeptBySteps ReadingsPositive where
  unread s t e h := h.congr (by rw [e.results]; simp) (State.job_eq_of_dispatch e.dispatch)
    (fun c p => .inl (by rw [State.reference, e.references]; rfl))
    (State.cell_eq_of_cells e.cells)
  rules := ReadingsPositive.rules
  deviceReset s _ := { State.reset_readings with cells := by rintro (_ | _) <;> rfl }
  upperCrossing s c h := by
    refine h.setCell c ?_
    unfold Cell.upperCrossing
    split
    · dsimp only
      split <;> exact h.summed c
    · exact h.summed c
  lowerCrossing := ReadingsPositive.acts.lowerCrossing
  commitApply _ h := h.congr
  arrival := ReadingsPositive.acts.takeArrival (fun _ h => h.congr) (fun _ h => h.congr)
    fun _ h => h.congr
  countTick s l h := by
    refine ⟨h.records, h.jobs, h.references, fun c => ?_⟩
    rw [State.countTick_cell]
    exact h.cells c

/-- Settles O9: a reading enters by a completed order, whose mean is at least 1, and each place it
goes to keeps it. -/
theorem stepKeepsReadingsPositive : Obligations.StepKeepsReadingsPositive :=
  fun _ _ h hs => ReadingsPositive.kept.step h hs

end Sys2Proof.Machine
end

section
-- One declaration at a time: the stacks of parallel elaboration do not fit under the memory limit.
set_option Elab.async false
/-!
The window states (O10): a record that the monitor judges still fits its entry, and a commit returns
to UNKNOWN the records of the entries that it changes.
-/
namespace Sys2Proof.Machine

/-! ### Window state records -/

theorem WindowRecord.unknown_fits (w : Option Window) : WindowRecord.unknown.Fits w where
  together := by simp [WindowRecord.unknown]
  apart h := absurd rfl h
  below h := absurd rfl h
  windowed h := absurd rfl h

/-- A record without a run fits any window. -/
theorem WindowRecord.settled_fits (x : Option WindowClass) (w : Window) :
    WindowRecord.Fits { state := x, pending := none, count := 0 } (some w) where
  together := by simp
  apart h := absurd rfl h
  below h := absurd rfl h
  windowed _ := nofun

/-- A run of `n` records of a class other than the state. -/
theorem WindowRecord.pending_fits {c present : WindowClass} {w : Window} {n : Nat}
    (hc : c ≠ present) (hn : n ≠ 0) (hq : n < w.qualify.toNat) :
    WindowRecord.Fits { state := some present, pending := some c, count := n } (some w) where
  together := ⟨nofun, fun h => absurd h hn⟩
  apart _ := ⟨nofun, fun h => hc (Option.some.inj h)⟩
  below _ := ⟨w, rfl, hq⟩
  windowed _ := nofun

/-- The judgement by what the record holds: without a value, in UNKNOWN, in the state's own class, or
a run that qualifies or goes on. -/
theorem WindowRecord.judge_cases (w : Window) (v : Option Nat) (k : WindowRecord) :
    k.judge w v = ({ k with pending := none, count := 0 }, none) ∨
    (∃ c t, k.judge w v = ({ state := some c, pending := none, count := 0 }, t)) ∨
    ∃ c present n, k.state = some present ∧ c ≠ present ∧ n ≠ 0 ∧ n < w.qualify.toNat ∧
      k.judge w v = ({ k with pending := some c, count := n }, none) := by
  unfold WindowRecord.judge
  cases v with
  | none => exact .inl rfl
  | some v =>
    cases hs : k.state with
    | none => exact .inr (.inl ⟨_, _, rfl⟩)
    | some present =>
      dsimp only
      split
      · exact .inl rfl
      · rename_i hc
        split
        all_goals
          split
          · exact .inr (.inl ⟨_, _, rfl⟩)
          · exact .inr (.inr ⟨_, _, _, rfl, hc, by omega, Nat.not_le.mp ‹_›, rfl⟩)

theorem WindowRecord.judge_fits (w : Window) (v : Option Nat) (k : WindowRecord) :
    (k.judge w v).1.Fits (some w) := by
  obtain e | ⟨c, t, e⟩ | ⟨c, present, n, hs, hc, hn, hq, e⟩ := judge_cases w v k <;> rw [e]
  · exact settled_fits _ w
  · exact settled_fits _ w
  · rw [hs]
    exact pending_fits hc hn hq

/-- Once classified, an entry stays so, and a transition classifies it. -/
theorem WindowRecord.judge_classified {w : Window} {v : Option Nat} {k : WindowRecord}
    (h : k.state ≠ none ∨ (k.judge w v).2.isSome = true) : (k.judge w v).1.state ≠ none := by
  obtain e | ⟨c, t, e⟩ | ⟨c, present, n, hs, -, -, -, e⟩ := judge_cases w v k <;> rw [e] at h ⊢
  · simpa using h
  · nofun
  · simp [hs]

/-! ### The monitor and the commit -/

theorem WindowsFit.congr {s t : State} (h : WindowsFit s)
    (windows : t.windows = s.windows := by simp)
    (active : t.scan.active = s.scan.active := by simp) : WindowsFit t where
  records i := by rw [windows, active]; exact h.records i
  members i hi := by rw [windows] at hi ⊢; exact h.members i hi

theorem memberMask_getLsbD (i j : Fin 16) :
    (memberMask i).getLsbD j.val = decide (j = i) := by
  unfold memberMask
  simp only [BitVec.getLsbD_shiftLeft, BitVec.getLsbD_one, j.isLt, decide_true, Bool.true_and,
    Fin.ext_iff]
  by_cases h : j.val < i.val
  · simp [h, Nat.ne_of_lt h]
  · have : j.val - i.val = 0 ↔ j.val = i.val := by omega
    simp [h, this]

theorem WindowsFit.monitor {s : State} (h : WindowsFit s) (i : Fin 16) (r : Record) :
    WindowsFit (s.monitor i r).2 := by
  unfold State.monitor
  split
  · exact h
  · rename_i w hw
    have record : ∀ (j : Fin 16) (k : WindowRecord),
        (s.windows.records.set i k)[j] = if j = i then k else s.windows.records[j] := by
      intro j k
      simp only [Fin.getElem_fin, Vector.getElem_set, Fin.ext_iff, eq_comm]
    constructor
    · intro j
      dsimp only
      rw [record]
      split
      · subst j
        rw [hw]
        exact WindowRecord.judge_fits ..
      · exact h.records j
    · intro j hj
      dsimp only at hj ⊢
      rw [record]
      split
      · subst j
        refine WindowRecord.judge_classified ?_
        by_cases ht : ((s.windows.records[i]).judge w
            (comparedValue s.scan.active[i] r)).2.isSome = true
        · exact .inr ht
        · rw [if_neg ht] at hj
          exact .inl (h.members i hj)
      · rename_i hji
        refine h.members j ?_
        split at hj
        · rw [BitVec.getLsbD_or, memberMask_getLsbD, decide_eq_false hji, Bool.or_false] at hj
          exact hj
        · exact hj

theorem WindowsFit.applyCommit {s : State} (h : WindowsFit s) : WindowsFit s.applyCommit := by
  have same : ∀ i : Fin 16, s.scan.changed i = false → s.scan.staging[i] = s.scan.active[i] := by
    intro i hi
    simpa [Scan.changed] using hi
  constructor
  · intro i
    simp only [State.applyCommit, State.raise, WindowMonitor.resetChanged, Fin.getElem_fin,
      Vector.getElem_ofFn]
    split
    · exact WindowRecord.unknown_fits _
    · rename_i hc
      have := same i (eq_false_of_ne_true hc)
      simp only [Fin.getElem_fin] at this
      rw [this]
      exact h.records i
  · intro i hi
    simp only [State.applyCommit, State.raise, WindowMonitor.resetChanged, Fin.getElem_fin,
      Vector.getElem_ofFn, BitVec.getLsbD_ofFnLE, i.isLt, dite_true, Bool.and_eq_true,
      Bool.not_eq_true'] at hi ⊢
    obtain ⟨hm, hc⟩ := hi
    rw [if_neg (by simpa using hc)]
    exact h.members i hm

theorem WindowsFit.applyPending {s : State} (h : WindowsFit s) : WindowsFit s.applyPending := by
  unfold State.applyPending
  split
  · exact h.applyCommit
  · exact h

theorem WindowsFit.reachStopped {s : State} (h : WindowsFit s) : WindowsFit s.reachStopped :=
  WindowsFit.applyPending (h.congr rfl rfl)

theorem WindowsFit.completionCheck {s : State} (h : WindowsFit s) :
    WindowsFit s.completionCheck := by
  unfold State.completionCheck
  split
  · split
    · dsimp only
      split
      · exact WindowsFit.reachStopped (h.congr rfl rfl)
      · exact h.congr rfl rfl
    · exact h
  · split
    · exact WindowsFit.reachStopped (h.congr rfl rfl)
    · exact h
  · exact h
  · exact h

theorem WindowsFit.startCycle {s : State} (h : WindowsFit s) : WindowsFit s.startCycle := by
  unfold State.startCycle
  dsimp only
  split
  · exact WindowsFit.completionCheck (h.congr)
  · exact h.congr

theorem WindowsFit.cycleStartEvent {s : State} (h : WindowsFit s) :
    WindowsFit s.cycleStartEvent := by
  unfold State.cycleStartEvent
  split
  · exact h.applyPending.startCycle
  · exact h.congr rfl rfl
  · exact h
  · exact h

theorem WindowsFit.finishJob {s : State} (h : WindowsFit s) (c : CellId) (j : Job) (r : Record) :
    WindowsFit (s.finishJob c j r) := by
  unfold State.finishJob
  split
  · rename_i i n _
    have ha : WindowsFit (((s.monitor i r).2.append (s.monitor i r).1).setScan
        { ((s.monitor i r).2.append (s.monitor i r).1).scan with
          jobsInFlight := ((s.monitor i r).2.append (s.monitor i r).1).scan.jobsInFlight - 1 }) :=
      (h.monitor i r).congr
    exact ha.completionCheck.congr rfl rfl
  · exact h.congr

theorem WindowsFit.acts : KeptByActs WindowsFit fun _ => True where
  moved _ _ _ _ _ h := h.congr
  delivered _ _ _ _ _ _ h := ⟨h.congr, trivial⟩
  aborted _ _ h := h.congr
  disabled _ _ h := h.congr
  restEnded _ _ _ h := h.congr
  ordered _ _ _ _ _ _ h := h.congr
  opportunity _ _ _ h := h.congr
  health _ _ _ _ h := h.congr
  offered _ _ _ _ _ _ _ h := h.congr
  reported _ _ _ _ _ _ _ h := h.congr
  paired _ _ _ _ _ _ _ h := h.congr
  completed _ c j _ _ _ _ h := h.finishJob c j _
  ended _ c j _ _ _ h := h.finishJob c j _
  released _ h := h.congr
  claimed s c w _ _ h := by
    refine h.congr (by simp) ?_
    unfold State.withdraw
    split <;> rfl
  spent _ _ _ h := h.congr

/-! ### Commands -/

theorem WindowsFit.scanStop {s : State} (h : WindowsFit s) : WindowsFit (scanStop s).state := by
  simp only [Machine.scanStop, Reply.done_state]
  unfold State.stopScan
  split
  · exact h.reachStopped
  · dsimp only
    split
    · exact WindowsFit.reachStopped (h.congr rfl rfl)
    · exact h.congr rfl rfl
  · exact h
  · exact h

theorem WindowsFit.tableCommit {s : State} (h : WindowsFit s) :
    WindowsFit (tableCommit s).state := by
  unfold Machine.tableCommit
  split
  · exact h
  · split
    · exact h
    · dsimp only
      split
      · exact h.applyCommit
      · exact h.congr rfl rfl

/-- Windows after a reset: nothing is classified. -/
theorem WindowsFit.of_reset {s : State} (h : s.windows = WindowMonitor.reset) : WindowsFit s := by
  constructor
  · intro i
    rw [h]
    simp only [WindowMonitor.reset, Fin.getElem_fin, Vector.getElem_replicate]
    exact WindowRecord.unknown_fits _
  · intro i hi
    rw [h] at hi
    simp [WindowMonitor.reset] at hi

theorem WindowsFit.unread (s t : State) (e : SameRegisters s t) (h : WindowsFit s) :
    WindowsFit t := h.congr e.windows (by rw [e.scan])

theorem WindowsFit.rules (code : Byte) (s : State) (h : WindowsFit s) :
    WindowsFit (commandOf code s).state := by
  revert s
  apply commandOf_keeps (Q := fun rule => ∀ s, WindowsFit s → WindowsFit (rule s).state)
  case cellDisable =>
    exact WindowsFit.acts.cellDisable (fun _ _ h => h.congr rfl rfl) (fun _ _ h => h.congr)
      fun _ h => h.completionCheck
  case scanConfig =>
    intro s h
    unfold Machine.scanConfig
    split
    · split
      · exact h
      · split
        · exact h.congr rfl rfl
        · split
          · exact h.congr rfl rfl
          · exact h
    · exact h
  case scanStart =>
    intro s h
    unfold Machine.scanStart
    split
    · exact h.congr rfl rfl
    · exact h
  case scanOnce =>
    intro s h
    unfold Machine.scanOnce
    split
    · exact WindowsFit.startCycle (h.congr rfl rfl)
    · exact h
  case scanStop => exact fun _ h => h.scanStop
  case entryWrite =>
    intro s h
    unfold Machine.entryWrite
    split
    · exact h
    · split
      · exact h
      · exact h.congr rfl rfl
  case entryRead =>
    intro s h
    unfold Machine.entryRead
    split
    · exact h.congr rfl rfl
    · exact h
  case tableRevert =>
    intro s h
    unfold Machine.tableRevert
    split
    · exact h
    · exact h.congr rfl rfl
  case tableCommit => exact fun _ h => h.tableCommit
  case tableAbandon =>
    intro s h
    unfold Machine.tableAbandon
    split
    · exact h.congr rfl rfl
    · exact h
  case requestCancel =>
    exact requestCancel_keeps WindowsFit.unread (fun _ _ _ h => h.congr rfl rfl)
      WindowsFit.acts.cancelJob
  case windowAck =>
    intro s h
    refine ⟨h.records, fun i hi => h.members i ?_⟩
    simp only [Machine.windowAck, Reply.done_state, BitVec.getLsbD_and, Bool.and_eq_true] at hi
    exact hi.1
  case eventAck => exact fun _ h => h.congr rfl rfl
  case softReset => exact fun _ _ => .of_reset rfl
  case bad => intro _ _ h; exact h
  all_goals intro s h; exact h.congr

theorem WindowsFit.kept : KeptBySteps WindowsFit where
  unread := WindowsFit.unread
  rules := WindowsFit.rules
  deviceReset _ _ := .of_reset rfl
  upperCrossing _ _ h := h.congr rfl rfl
  lowerCrossing := WindowsFit.acts.lowerCrossing
  commitApply s h := by
    unfold State.commitApply
    split
    · exact h.applyCommit
    · exact h
  arrival := WindowsFit.acts.takeArrival (fun _ h => h.congr)
    (fun s h => by
      unfold State.scanTimerExpiry
      split
      · exact WindowsFit.cycleStartEvent (h.congr rfl rfl)
      · exact h)
    (fun s h => by
      unfold State.trigEdge
      split
      · dsimp only
        split
        · exact WindowsFit.cycleStartEvent (h.congr rfl rfl)
        · exact h.congr rfl rfl
      · exact h)
  countTick _ _ h := h.congr rfl rfl

/-- Settles O10: the monitor and the commit are all that moves a window state or an active entry. -/
theorem stepKeepsWindowsFit : Obligations.StepKeepsWindowsFit :=
  fun _ _ h hs => WindowsFit.kept.step h hs

end Sys2Proof.Machine
end

section
-- One declaration at a time: the stacks of parallel elaboration do not fit under the memory limit.
set_option Elab.async false
/-!
The serial port (O12): its states through bytes, edges and frames; nothing else moves it.
-/
namespace Sys2Proof.Machine

theorem commandOf_keeps_port (code : Byte) (s : State) :
    (commandOf code s).state.port = s.port ∧
      (commandOf code s).state.resetHeld = s.resetHeld := by
  revert s
  apply commandOf_keeps (Q := fun rule => ∀ s : State,
    (rule s).state.port = s.port ∧ (rule s).state.resetHeld = s.resetHeld)
  case softReset => exact fun _ => ⟨rfl, rfl⟩
  case bad => exact fun _ _ => ⟨rfl, rfl⟩
  all_goals intro s; simp

theorem PortConsistent.congr {s t : State} (h : PortConsistent s) (port : t.port = s.port)
    (held : t.resetHeld = s.resetHeld) : PortConsistent t := by
  obtain ⟨h1, h2, h3, h4, h5, h6⟩ := h
  constructor <;> simpa only [port, held]

/-- Whatever moves in the port without a change of its frame. -/
theorem PortConsistent.within {s t : State} (h : PortConsistent s)
    (held : t.resetHeld = s.resetHeld) (cs : t.port.csLow = s.port.csLow)
    (frame : t.port.frame = s.port.frame) (direction : t.port.direction = s.port.direction)
    (bits : s.port.frame = .noFrame → t.port.bitCount = s.port.bitCount ∨ t.port.bitCount = 0)
    (sdo : s.port.frame ≠ .read → t.port.sdo = s.port.sdo) : PortConsistent t where
  csHigh := by rw [cs, frame]; exact h.csHigh
  reset := by rw [held, frame]; exact h.reset
  write := by rw [frame, direction]; exact h.write
  read := by rw [frame, direction]; exact h.read
  bits := by
    rw [frame]
    intro hn
    obtain e | e := bits hn
    · exact e.trans (h.bits hn)
    · exact e
  sdo := by
    rw [frame]
    intro hf
    rw [sdo (by rintro e; rw [e] at hf; simp at hf)]
    exact h.sdo hf

/-- A frame that has ended. -/
theorem PortConsistent.of_noFrame {t : State} (frame : t.port.frame = .noFrame)
    (bits : t.port.bitCount = 0) : PortConsistent t where
  csHigh _ := frame
  reset _ := frame
  write h := by rw [frame] at h; cases h
  read h := by rw [frame] at h; cases h
  bits _ := bits
  sdo h := by rw [frame] at h; simp at h

/-! ### Bytes -/

theorem PortConsistent.takeHeader {s : State} (h : PortConsistent s) (b : Byte) :
    PortConsistent (s.takeHeader b) := by
  unfold State.takeHeader
  split
  · rename_i hf
    obtain ⟨hf, -⟩ := hf
    have sdo := h.sdo (.inl hf)
    have cs : s.port.csLow = true := by
      by_contra hc
      have := h.csHigh (by simpa using hc)
      rw [hf] at this
      cases this
    have held : s.resetHeld = false := by
      by_contra hc
      have := h.reset (by simpa using hc)
      rw [hf] at this
      cases this
    dsimp only
    cases b.getLsbD 7
    all_goals exact ⟨by simp [Port.complete, cs], by simp [held], by simp, by simp,
      fun _ => rfl, fun _ => sdo⟩
  · exact h

theorem PortConsistent.completeByte {s t : State} (h : PortConsistent s) (b : Byte)
    (port : t.port = s.port.completeByte b) (held : t.resetHeld = s.resetHeld) :
    PortConsistent t := by
  refine h.within held ?_ ?_ ?_ ?_ ?_ <;> rw [port]
  · rfl
  · rfl
  · rfl
  · exact fun _ => .inr rfl
  · exact fun _ => rfl

theorem PortConsistent.takeCommand {s : State} (h : PortConsistent s) (code : Byte)
    (body : State → Reply) (rule : ∀ u, PortConsistent u → PortConsistent (body u).state) :
    PortConsistent (s.takeCommand code body) := by
  unfold State.takeCommand
  split
  · have hb : PortConsistent { s with port := s.port.complete code } :=
      h.within rfl rfl rfl rfl (fun _ => .inr rfl) fun _ => rfl
    exact (rule _ hb).congr rfl rfl
  · exact h

theorem PortConsistent.rules (code : Byte) (s : State) (h : PortConsistent s) :
    PortConsistent (commandOf code s).state :=
  h.congr (commandOf_keeps_port code s).1 (commandOf_keeps_port code s).2

theorem PortConsistent.writeEnable {s : State} (h : PortConsistent s) (b : Byte) :
    PortConsistent (s.writeEnable b) := by
  unfold State.writeEnable
  split
  · exact h.completeByte b rfl rfl
  · exact h

theorem PortConsistent.writeByte {s : State} (h : PortConsistent s) (b : Byte) :
    PortConsistent (s.writeByte b) := by
  unfold State.writeByte
  split
  · split
    · exact h.takeCommand b _ (PortConsistent.rules b)
    · split
      · exact h.writeEnable b
      · exact h.completeByte b rfl (by simp)
  · exact h

/-! ### Loads and edges -/

/-- A load is due in a READ frame. -/
theorem Port.loadDue_read {p : Port} (h : p.loadDue = true) : p.frame = .read := by
  simp only [Port.loadDue, Bool.and_eq_true, decide_eq_true_eq] at h
  exact h.1.1

theorem PortConsistent.load {s t : State} (h : PortConsistent s) (due : s.port.loadDue = true)
    (b : Byte) (port : t.port = s.port.load b) (held : t.resetHeld = s.resetHeld) :
    PortConsistent t := by
  refine h.within held ?_ ?_ ?_ ?_ ?_ <;> rw [port]
  · rfl
  · rfl
  · rfl
  · exact fun _ => .inl rfl
  · exact fun hr => absurd (Port.loadDue_read due) hr

theorem PortConsistent.latchCounter {s : State} (h : PortConsistent s) :
    PortConsistent s.latchCounter := by
  unfold State.latchCounter
  split
  · rename_i hd
    exact h.load hd.1 _ rfl rfl
  · exact h

theorem PortConsistent.copySnapshot {s : State} (h : PortConsistent s) :
    PortConsistent s.copySnapshot := by
  unfold State.copySnapshot
  split
  · rename_i hd
    exact h.load hd.1 _ rfl rfl
  · exact h

theorem PortConsistent.sckFall {s : State} (h : PortConsistent s) : PortConsistent s.sckFall := by
  unfold State.sckFall
  split
  · split
    · rename_i hd
      unfold State.loadByte
      split
      · exact h.latchCounter
      · split
        · exact h.copySnapshot
        · exact h.load hd _ rfl rfl
    · refine h.within rfl rfl rfl rfl (fun _ => .inl rfl) fun hr => ?_
      simp [Port.fall, hr]
  · exact h

theorem PortConsistent.byteComplete {s : State} (h : PortConsistent s) :
    PortConsistent s.byteComplete := by
  unfold State.byteComplete
  split
  · exact h
  · exact h.takeHeader _
  · exact h.writeByte _
  · exact h.within rfl rfl rfl rfl (fun _ => .inl rfl) fun _ => rfl

theorem PortConsistent.sckRise {s : State} (h : PortConsistent s) (l : Level) :
    PortConsistent (s.sckRise l) := by
  unfold State.sckRise
  split
  · exact h
  · split
    · exact h.within rfl rfl rfl rfl (fun _ => .inl rfl) fun _ => rfl
    · rename_i hf
      have hc : PortConsistent { s with port := s.port.capture l } :=
        h.within rfl rfl rfl rfl (fun hn => absurd hn hf) fun _ => rfl
      dsimp only
      split
      · exact hc.byteComplete
      · exact hc

/-! ### Frames -/

theorem PortConsistent.beginFrame {s : State} (h : PortConsistent s) :
    PortConsistent s.beginFrame := by
  unfold State.beginFrame
  split
  · exact h
  · split
    · rename_i held
      exact .of_noFrame (h.reset held) (h.bits (h.reset held))
    · rename_i held
      exact ⟨nofun, fun hr => absurd hr held, nofun, nofun, nofun, fun _ => rfl⟩

theorem PortConsistent.endFrame {s : State} (h : PortConsistent s) :
    PortConsistent s.endFrame := by
  unfold State.endFrame
  split
  · exact .of_noFrame rfl rfl
  · exact h

/-- Settles O12: only bytes, edges and frames move the port, and RESET# puts it in NO_FRAME. -/
theorem stepKeepsPortConsistent : Obligations.StepKeepsPortConsistent :=
  fun _ _ h hs => step_keeps PortConsistent (fun _ _ h => h.congr rfl rfl)
    (fun _ _ h => h.congr rfl rfl) (fun _ l h => h.sckRise l) (fun _ h => h.sckFall)
    (fun _ _ h => h.congr rfl rfl) (fun _ _ h => h.congr rfl rfl)
    (fun _ code body h rule => h.takeCommand code body rule) PortConsistent.rules
    (fun _ b h => h.writeByte b) (fun _ b h => h.writeEnable b) (fun _ h => h.latchCounter)
    (fun _ h => h.copySnapshot) (fun _ h => h.beginFrame) (fun _ b h => h.takeHeader b)
    (fun _ h => h.endFrame) (fun _ _ => .of_noFrame rfl rfl)
    (fun _ h => ⟨h.csHigh, nofun, h.write, h.read, h.bits, h.sdo⟩)
    (fun _ _ h => h.congr rfl rfl) (fun _ _ h => h.congr (by simp) (by simp))
    (fun _ h => h.congr (by simp) (by simp)) (fun _ _ h => h.congr (by simp) (by simp))
    (fun _ _ h => h.congr rfl rfl) h hs

/-- Settles O13: each invariant on the registers' reset values. -/
theorem resetMeetsInvariants : Obligations.ResetMeetsInvariants :=
  ⟨⟨rfl, rfl⟩, ⟨Nat.zero_le _, rfl, rfl, rfl⟩, Consecutive.nil _,
    ⟨rfl, fun _ => rfl, fun _ => rfl, nofun, nofun, nofun, fun _ => rfl, .nil⟩,
    State.reset_ranges, State.reset_readings, .of_reset rfl,
    ⟨by rintro (_ | _) <;> rfl, by rintro (_ | _) <;> rfl⟩, .of_noFrame rfl rfl⟩

end Sys2Proof.Machine
end

section
-- One declaration at a time: the stacks of parallel elaboration do not fit under the memory limit.
set_option Elab.async false
/-!
The rows one by one: the command rows by their codes, the judgement of a candidate (R101), and what
follows for a single step (O1, O3, O16, O17).
-/
namespace Sys2Proof.Machine

/-- The code of a command row (R200). -/
def commandCode : Instr → Option Byte
  | .cellEnable => some 0x10
  | .cellDisable => some 0x11
  | .channelSet => some 0x18
  | .channelClearFault => some 0x19
  | .faultThreshold => some 0x1A
  | .timebaseSet => some 0x20
  | .scanConfig => some 0x28
  | .scanStart => some 0x29
  | .scanOnce => some 0x2A
  | .scanStop => some 0x2B
  | .entryWrite => some 0x30
  | .entryRead => some 0x31
  | .tableRevert => some 0x32
  | .tableCommit => some 0x33
  | .tableAbandon => some 0x34
  | .profileWrite => some 0x38
  | .profileRead => some 0x39
  | .referenceInvalidate => some 0x3A
  | .requestSubmit => some 0x40
  | .requestCancel => some 0x41
  | .requestFlush => some 0x42
  | .resultPop => some 0x48
  | .resultFlush => some 0x49
  | .resultWatermark => some 0x4A
  | .windowAck => some 0x50
  | .eventAck => some 0x51
  | .softReset => some 0x5A
  | _ => none

/-- A command row is the command decoder at its code. -/
theorem exec_commandCode {c : Instr} {code : Byte} (h : commandCode c = some code) (s : State) :
    exec c s = .next (s.takeCommand code (commandOf code)) := by
  cases c <;> cases h <;> rfl

/-! ### The judgement -/

/-- A candidate judged to convert is on a usable channel (R101). -/
theorem State.judge_usable {s : State} {c : CellId} {w : Work}
    (h : s.judge c w ≠ .unavailable) : (s.channel w.channel).enabled = true ∧
      ((s.channel w.channel).health ≠ .faulted ∨ w.force = true) := by
  unfold State.judge at h
  dsimp only at h
  split at h
  · exact absurd rfl h
  · rename_i he
    split at h
    · exact absurd rfl h
    · rename_i hf
      refine ⟨by simpa using he, ?_⟩
      by_contra hn
      obtain ⟨hh, hw⟩ := not_or.mp hn
      exact hf ⟨not_not.mp hh, eq_false_of_ne_true hw⟩

/-- A candidate that is held has its reference channel available (R101). -/
theorem State.judge_held {s : State} {c : CellId} {w : Work} {b : Bool}
    (h : s.judge c w = .held b) : s.available (referenceChannel c) = true := by
  by_contra hn
  unfold State.judge at h
  dsimp only at h
  rw [if_pos (eq_false_of_ne_true hn)] at h
  (repeat' split at h) <;> cases h

theorem State.available_iff {s : State} {ch : Fin 10} : s.available ch = true ↔
    (s.channel ch).enabled = true ∧ (s.channel ch).health ≠ .faulted := by
  simp [State.available, ChannelRecord.available]

theorem Cell.take_order (k : Cell) (o : Order) : (k.take o).order = some o := by
  unfold Cell.take
  dsimp only
  split <;> rfl

/-! ### Single steps -/

/-- Settles O1: the definition of a step on a queue that is not empty. -/
theorem stepTakesFrontCommand : Obligations.StepTakesFrontCommand := fun _ _ _ => rfl

/-- The command unit's queue and the wire are no register of a rule's. -/
theorem commandOf_keeps_queue (code : Byte) (s : State) :
    (commandOf code s).state.pending = s.pending ∧ (commandOf code s).state.wire = s.wire := by
  revert s
  apply commandOf_keeps (Q := fun rule => ∀ s : State,
    (rule s).state.pending = s.pending ∧ (rule s).state.wire = s.wire)
  case softReset => exact fun _ => ⟨rfl, rfl⟩
  case bad => exact fun _ _ => ⟨rfl, rfl⟩
  all_goals intro s; simp

theorem State.takeCommand_keeps_queue (s : State) (code : Byte) {body : State → Reply}
    (rule : ∀ u, (body u).state.pending = u.pending ∧ (body u).state.wire = u.wire) :
    (s.takeCommand code body).pending = s.pending ∧ (s.takeCommand code body).wire = s.wire := by
  unfold State.takeCommand
  split
  · exact rule _
  · exact ⟨rfl, rfl⟩

theorem State.writeByte_keeps_queue (s : State) (b : Byte) :
    (s.writeByte b).pending = s.pending ∧ (s.writeByte b).wire = s.wire := by
  unfold State.writeByte
  split
  · split
    · exact s.takeCommand_keeps_queue b (commandOf_keeps_queue b)
    · split <;> simp
  · exact ⟨rfl, rfl⟩

theorem State.timebaseTick_keeps_queue (s : State) (l : Level) :
    (s.timebaseTick l).pending = s.pending ∧ (s.timebaseTick l).wire = s.wire :=
  State.timebaseTick_keeps (fun u => u.pending = s.pending ∧ u.wire = s.wire) (fun _ _ h => h)
    (fun _ _ h => by simpa using h) (fun _ _ h => h) l ⟨rfl, rfl⟩

/-- Settles O3: every row answers, and no rule, byte, edge or arrival reaches the queue or the wire. -/
theorem everyCommandAnswers : Obligations.EveryCommandAnswers := by
  intro c s
  cases hc : commandCode c with
  | some code =>
    exact ⟨_, exec_commandCode hc s, s.takeCommand_keeps_queue code (commandOf_keeps_queue code)⟩
  | none =>
    cases c <;> try cases hc
    case badCommand.refl code =>
      refine ⟨_, rfl, ?_⟩
      split
      · exact ⟨rfl, rfl⟩
      · exact s.takeCommand_keeps_queue code fun _ => ⟨rfl, rfl⟩
    case registerWrite.refl b => exact ⟨_, rfl, s.writeByte_keeps_queue b⟩
    case timebaseTick.refl l => exact ⟨_, rfl, s.timebaseTick_keeps_queue l⟩
    case deviceReset.refl => exact ⟨_, rfl, rfl, rfl⟩
    case resetRelease.refl => exact ⟨_, rfl, rfl, rfl⟩
    all_goals exact ⟨_, rfl, by simp, by simp⟩

/-- The cell that a dispatch gives an order, by the judgement (R104 to R106). -/
theorem State.dispatchWork_order {s : State} {k : CellId} {w : Work} {o : Order}
    (none : (s.cell k).order = none)
    (h : ((s.dispatchWork k w (s.judge k w)).cell k).order = some o) :
    (s.dispatchWork k w (s.judge k w)).job k = some (s.jobOf k w (s.judge k w)) ∧
      ((s.judge k w ≠ .unavailable ∧ o.channel = w.channel) ∨
        ∃ b, s.judge k w = .held b ∧ o.channel = referenceChannel k) := by
  generalize hv : s.judge k w = v at h ⊢
  unfold State.dispatchWork at h ⊢
  dsimp only at h ⊢
  cases v with
  | unavailable => simp [none] at h
  | refFailed => simp [none] at h
  | converts =>
    simp only [State.giveOrder_cell_self, Cell.take_order, Option.some.injEq] at h
    subst h
    exact ⟨by simp, .inl ⟨nofun, rfl⟩⟩
  | paired =>
    simp only [State.giveOrder_cell_self, Cell.take_order, Option.some.injEq] at h
    subst h
    exact ⟨by simp, .inl ⟨nofun, rfl⟩⟩
  | held b =>
    simp only [State.giveOrder_cell_self, Cell.take_order, Option.some.injEq] at h
    subst h
    exact ⟨by simp, .inr ⟨b, rfl, rfl⟩⟩

/-- The cell that takes its main order at the end of a rest (R108). -/
theorem State.restExpiry_order {s : State} {k : CellId} {o : Order}
    (none : (s.cell k).order = none) (h : ((s.restExpiry k).cell k).order = some o) :
    ∃ j, (s.restExpiry k).job k = some j ∧ o.channel = j.channel ∧
      (s.channel j.channel).enabled = true ∧
      ((s.channel j.channel).health ≠ .faulted ∨ j.force = true) := by
  unfold State.restExpiry at h ⊢
  split at h
  · rename_i hd
    rw [if_pos hd]
    dsimp only at h ⊢
    split at h
    · simp [Cell.endRest] at h
    · rename_i j hj
      unfold State.recheck at h ⊢
      dsimp only at h ⊢
      split at h
      · rename_i usable
        rw [if_pos usable]
        simp only [State.giveOrder_cell_self, Cell.take_order, Option.some.injEq] at h
        subst h
        exact ⟨j, by simpa using hj, rfl, usable.1, usable.2⟩
      · simp [Cell.endRest] at h
  · rw [none] at h
    cases h

/-- Settles O16: an order comes from a judgement that found the channel usable, or from the recheck
at the end of a rest. -/
theorem conversionsStartOnUsableChannels : Obligations.ConversionsStartOnUsableChannels := by
  rintro k c s t o (rfl | rfl) none hs ho <;> obtain rfl := Host.Outcome.next.inj hs
  · obtain he | he | ⟨w, -, -, -, he⟩ := s.attempt_cases k <;> rw [he] at ho ⊢
    · rw [none] at ho
      cases ho
    · have := none.symm.trans ho
      cases this
    · obtain ⟨hj, ⟨usable, hc⟩ | ⟨b, held, hc⟩⟩ :=
        State.dispatchWork_order (s := s.setOpportunity k false) none ho
      · obtain ⟨enabled, healthy⟩ := State.judge_usable usable
        rw [hc]
        exact ⟨_, hj, .inl rfl, enabled, healthy.imp_right fun hf => ⟨hf, rfl⟩⟩
      · obtain ⟨enabled, healthy⟩ := State.available_iff.mp (State.judge_held held)
        rw [hc]
        exact ⟨_, hj, .inr rfl, enabled, .inl healthy⟩
  · obtain ⟨j, hj, hc, enabled, healthy⟩ := State.restExpiry_order none ho
    rw [hc]
    exact ⟨j, hj, .inl rfl, enabled, healthy.imp_right fun hf => ⟨hf, rfl⟩⟩

/-- The expiry of a cell's timer leaves the other cell. -/
theorem State.settleCell_keeps_other (s : State) (k : CellId) (b : Bool)
    (r : Cell × Option Outcome) :
    (if b then s.settleCell k r else s).cell k.other = s.cell k.other ∧
      (if b then s.settleCell k r else s).job k.other = s.job k.other := by
  split
  · exact ⟨State.settleCell_cell_other .., State.settleCell_job_other ..⟩
  · exact ⟨rfl, rfl⟩

/-- Settles O17: each row moves its own cell's context alone. -/
theorem otherCellUntouched : Obligations.OtherCellUntouched := by
  intro k c s t hc hs
  simp only [List.mem_cons, List.not_mem_nil, or_false] at hc
  rcases hc with rfl | rfl | rfl | rfl | rfl | rfl | rfl | rfl <;>
    obtain rfl := Host.Outcome.next.inj hs
  · exact ⟨State.cell_setCell_other .., rfl⟩
  · exact ⟨State.settleCell_cell_other .., State.settleCell_job_other ..⟩
  · exact ⟨State.restExpiry_cell_other .., State.restExpiry_job_other ..⟩
  · exact s.settleCell_keeps_other k _ _
  · exact s.settleCell_keeps_other k _ _
  · exact s.settleCell_keeps_other k _ _
  · exact s.settleCell_keeps_other k _ _
  · exact ⟨State.attempt_cell_other .., State.attempt_job_other ..⟩

end Sys2Proof.Machine
end

section
-- One declaration at a time: the stacks of parallel elaboration do not fit under the memory limit.
set_option Elab.async false
/-!
What only certain rows change: the scan tables (O14), followed through the acts of an arrival, and the
cycle number (O15).
-/
namespace Sys2Proof.Machine

/-! ### Flags -/

theorem LatchedEvent.mask_getLsbD (e f : LatchedEvent) :
    f.mask.getLsbD e.number = decide (e = f) := by
  cases e <;> cases f <;> rfl

/-- A latched event is raised when its place is set. -/
theorem State.raised_eq (s : State) (e : LatchedEvent) :
    s.raised e = s.events.flags.getLsbD e.number := by
  have place : e.number < 6 := by cases e <;> decide
  have hb : ∀ n, e.mask.getLsbD n = decide (n = e.number) := by
    intro n
    unfold LatchedEvent.mask
    rw [BitVec.getLsbD_shiftLeft, BitVec.getLsbD_one]
    by_cases h : n = e.number
    · subst h
      simp [place]
    · have : n < e.number ∨ n - e.number ≠ 0 := by omega
      obtain h' | h' := this <;> simp [h, h']
  rw [Bool.eq_iff_iff, State.raised, bne_iff_ne, bitVec_ne_zero_iff_exists_getLsbD]
  constructor
  · rintro ⟨n, hn⟩
    simp only [BitVec.getLsbD_and, hb, Bool.and_eq_true, decide_eq_true_eq] at hn
    rw [← hn.2]
    exact hn.1
  · intro h
    exact ⟨⟨e.number, place⟩, by simp [BitVec.getLsbD_and, hb, h]⟩

/-- A raised flag stays raised (R179). -/
theorem State.raised_raise (s : State) (e f : LatchedEvent) :
    (s.raise e).raised f = (decide (f = e) || s.raised f) := by
  rw [State.raised_eq, State.raised_eq, State.raise_events, BitVec.getLsbD_or,
    LatchedEvent.mask_getLsbD, Bool.or_comm]

/-! ### The tables -/

/-- From `s` to `t` the staging table stays, and the active one has at most taken it. -/
structure CommitsOnly (s t : State) : Prop where
  staging : t.scan.staging = s.scan.staging
  active : t.scan.active = s.scan.active ∨
    (t.scan.active = s.scan.staging ∧ t.raised .commitApplied = true)

/-- Whatever leaves the tables and lowers no flag. -/
theorem CommitsOnly.congr {s t u : State} (h : CommitsOnly s t)
    (staging : u.scan.staging = t.scan.staging := by simp)
    (active : u.scan.active = t.scan.active := by simp)
    (flags : u.raised .commitApplied = t.raised .commitApplied ∨
      u.raised .commitApplied = true := by simp [State.raised]) : CommitsOnly s u := by
  refine ⟨staging.trans h.staging, ?_⟩
  rw [active]
  refine h.active.imp_right fun ⟨ha, hr⟩ => ⟨ha, ?_⟩
  obtain e | e := flags
  · exact e.trans hr
  · exact e

theorem CommitsOnly.raise {s t : State} (h : CommitsOnly s t) (e : LatchedEvent) :
    CommitsOnly s (t.raise e) := by
  refine h.congr rfl rfl ?_
  rw [State.raised_raise]
  cases decide (LatchedEvent.commitApplied = e) <;> simp

theorem CommitsOnly.applyCommit {s t : State} (h : CommitsOnly s t) :
    CommitsOnly s t.applyCommit := by
  refine ⟨h.staging, .inr ⟨h.staging, ?_⟩⟩
  unfold State.applyCommit
  rw [State.raised_raise]
  rfl

theorem CommitsOnly.applyPending {s t : State} (h : CommitsOnly s t) :
    CommitsOnly s t.applyPending := by
  unfold State.applyPending
  split
  · exact h.applyCommit
  · exact h

theorem CommitsOnly.reachStopped {s t : State} (h : CommitsOnly s t) :
    CommitsOnly s t.reachStopped :=
  CommitsOnly.applyPending (h.congr rfl rfl (.inl rfl))

theorem CommitsOnly.completionCheck {s t : State} (h : CommitsOnly s t) :
    CommitsOnly s t.completionCheck := by
  unfold State.completionCheck
  split
  · split
    · dsimp only
      split
      · have hm : CommitsOnly s ((t.raise .scanDone).setScan
            { (t.raise .scanDone).scan with single := false }) :=
          (h.raise .scanDone).congr rfl rfl (.inl rfl)
        exact (hm.raise .scanStopped).reachStopped
      · exact (h.raise .scanDone).congr rfl rfl (.inl rfl)
    · exact h
  · split
    · exact (h.raise .scanStopped).reachStopped
    · exact h
  · exact h
  · exact h

theorem CommitsOnly.offer {s t : State} (h : CommitsOnly s t) (c : CellId) :
    CommitsOnly s (t.offer c) := h.congr

theorem CommitsOnly.startCycle {s t : State} (h : CommitsOnly s t) :
    CommitsOnly s t.startCycle := by
  unfold State.startCycle
  dsimp only
  split
  · exact CommitsOnly.completionCheck h.congr
  · exact h.congr

theorem CommitsOnly.cycleStartEvent {s t : State} (h : CommitsOnly s t) :
    CommitsOnly s t.cycleStartEvent := by
  unfold State.cycleStartEvent
  split
  · exact h.applyPending.startCycle
  · have ho : CommitsOnly s (t.setScan { t.scan with
        overrun := if t.scan.overrun = 255 then 255 else t.scan.overrun + 1 }) :=
      h.congr rfl rfl (.inl rfl)
    exact ho.raise .scanOverrun
  · exact h
  · exact h

theorem CommitsOnly.append {s t : State} (h : CommitsOnly s t) (r : Record) :
    CommitsOnly s (t.append r) := by
  unfold State.append
  have ha : CommitsOnly s { t with results := { t.results with
      records := t.results.records ++ [{ r with sequence := t.results.nextSequence }]
      reserved := t.results.reserved - 1
      nextSequence := t.results.nextSequence + 1 } } := h.congr rfl rfl (.inl rfl)
  dsimp only
  split
  · exact ha.raise .requestDone
  · exact ha

theorem CommitsOnly.finishJob {s t : State} (h : CommitsOnly s t) (c : CellId) (j : Job)
    (r : Record) : CommitsOnly s (t.finishJob c j r) := by
  unfold State.finishJob
  split
  · rename_i i n _
    have hm : CommitsOnly s (t.monitor i r).2 := h.congr
    have hj : CommitsOnly s (((t.monitor i r).2.append (t.monitor i r).1).setScan
        { ((t.monitor i r).2.append (t.monitor i r).1).scan with
          jobsInFlight := ((t.monitor i r).2.append (t.monitor i r).1).scan.jobsInFlight - 1 }) :=
      (hm.append (t.monitor i r).1).congr rfl rfl (.inl rfl)
    exact hj.completionCheck.congr rfl rfl (.inl rfl)
  · exact (h.append r).congr rfl rfl (.inl rfl)

theorem CommitsOnly.updateHealth {s t : State} (h : CommitsOnly s t) (ch : Fin 10) (forced : Bool)
    (o : Outcome) : CommitsOnly s (t.updateHealth ch forced o) := by
  have hr : ∀ r, CommitsOnly s (t.setChannel ch r) := fun _ => h.congr rfl rfl (.inl rfl)
  unfold State.updateHealth
  split
  · dsimp only
    split
    · split
      · exact ((hr _).raise .channelFault).congr rfl rfl (.inl rfl)
      · exact (hr _).raise .channelFault
    · exact hr _
  · dsimp only
    split
    · exact (hr _).offer _
    · exact hr _

theorem CommitsOnly.acts (s : State) : KeptByActs (CommitsOnly s) fun _ => True where
  moved _ _ _ _ _ h := h.congr rfl rfl (.inl rfl)
  delivered _ _ _ _ _ _ h := ⟨h.congr rfl rfl (.inl rfl), trivial⟩
  aborted _ _ h := h.congr rfl rfl (.inl rfl)
  disabled _ _ h := h.congr rfl rfl (.inl rfl)
  restEnded _ _ _ h := h.congr rfl rfl (.inl rfl)
  ordered _ _ _ _ _ _ h := h.congr rfl rfl (.inl rfl)
  opportunity _ _ _ h := h.congr rfl rfl (.inl rfl)
  health _ ch forced o h := h.updateHealth ch forced o
  offered _ _ _ _ _ _ _ h := h.congr
  reported _ _ _ _ _ _ _ h := h.append _
  paired _ _ _ _ _ _ _ h := h.congr rfl rfl (.inl rfl)
  completed _ c j _ _ _ _ h := h.finishJob c j _
  ended _ c j _ _ _ h := h.finishJob c j _
  released _ h := h.congr
  claimed t c w _ _ h := by
    have hw : CommitsOnly s ((t.reserve (t.judge c w).slots).withdraw c w) := by
      unfold State.withdraw
      split <;> exact h.congr rfl rfl (.inl rfl)
    exact hw.congr rfl rfl (.inl rfl)
  spent _ _ _ h := h.congr rfl rfl (.inl rfl)

theorem CommitsOnly.takeArrival {s : State} (t : State) (a : Arrival) (h : CommitsOnly s t) :
    CommitsOnly s (t.takeArrival a) :=
  (CommitsOnly.acts s).takeArrival
    (fun _ h => by
      unfold State.intervalTick
      split
      · exact h.congr rfl rfl (.inl rfl)
      · exact h)
    (fun t h => by
      unfold State.scanTimerExpiry
      split
      · have hr : CommitsOnly s { t with timer := t.timer.reload } := h.congr rfl rfl (.inl rfl)
        exact hr.cycleStartEvent
      · exact h)
    (fun t h => by
      unfold State.trigEdge
      split
      · have hr : CommitsOnly s { t with trig := { t.trig with
            filtered := t.trig.filtered.flip, confirming := 0 } } := h.congr rfl rfl (.inl rfl)
        dsimp only
        split
        · exact hr.cycleStartEvent
        · exact hr
      · exact h)
    t a h

theorem CommitsOnly.cancelJobs {s t : State} (h : CommitsOnly s t) (tag : Byte) :
    CommitsOnly s (t.cancelJobs tag) := by
  have cancel := (CommitsOnly.acts s).cancelJob
  unfold State.cancelJobs
  split
  · have hf : CommitsOnly s { t with freeIndex := t.freeIndex + 1 } :=
      h.congr rfl rfl (.inl rfl)
    exact cancel _ _ _ (cancel _ _ _ hf)
  · exact cancel _ _ _ (cancel _ _ _ h)

/-- What a row may do to the tables. -/
structure TablesMove (s t : State) : Prop where
  staging : s.scan.commitPending = true → t.scan.staging = s.scan.staging
  active : t.scan.active = s.scan.active ∨
    (t.scan.active = s.scan.staging ∧ t.raised .commitApplied = true)

theorem CommitsOnly.moves {s t : State} (h : CommitsOnly s t) : TablesMove s t :=
  ⟨fun _ => h.staging, h.active⟩

theorem CommitsOnly.refl {s : State} : CommitsOnly s s := ⟨rfl, .inl rfl⟩

/-- A row that reaches neither table. -/
theorem TablesMove.of_eq {s t : State} (staging : t.scan.staging = s.scan.staging := by simp)
    (active : t.scan.active = s.scan.active := by simp) : TablesMove s t :=
  ⟨fun _ => staging, .inl active⟩

theorem TablesMove.rules (code : Byte) (s : State) : TablesMove s (commandOf code s).state := by
  revert s
  apply commandOf_keeps (Q := fun rule => ∀ s, TablesMove s (rule s).state)
  case cellDisable =>
    intro s
    refine ((CommitsOnly.acts s).cellDisable (fun _ _ h => h.congr rfl rfl (.inl rfl))
      (fun _ _ h => h.congr rfl rfl (.inl rfl)) (fun _ h => h.completionCheck) s .refl).moves
  case scanConfig =>
    intro s
    unfold Machine.scanConfig
    (repeat' split) <;> exact .of_eq rfl rfl
  case scanStart =>
    intro s
    unfold Machine.scanStart
    split <;> exact .of_eq rfl rfl
  case scanOnce =>
    intro s
    unfold Machine.scanOnce
    split
    · have hm : CommitsOnly s (s.setScan { s.scan with single := true }) := ⟨rfl, .inl rfl⟩
      exact hm.startCycle.moves
    · exact .of_eq rfl rfl
  case scanStop =>
    intro s
    simp only [Machine.scanStop, Reply.done_state]
    unfold State.stopScan
    split
    · exact CommitsOnly.refl.reachStopped.moves
    · dsimp only
      have hm : CommitsOnly s (s.setScan { s.scan with due := [], single := false }) :=
        ⟨rfl, .inl rfl⟩
      split
      · exact hm.reachStopped.moves
      · exact .of_eq rfl rfl
    · exact .of_eq rfl rfl
    · exact .of_eq rfl rfl
  case entryWrite =>
    intro s
    unfold Machine.entryWrite
    split
    · exact .of_eq rfl rfl
    · split
      · exact .of_eq rfl rfl
      · exact ⟨fun hp => absurd hp ‹_›, .inl rfl⟩
  case entryRead =>
    intro s
    unfold Machine.entryRead
    split <;> exact .of_eq rfl rfl
  case tableRevert =>
    intro s
    unfold Machine.tableRevert
    split
    · exact .of_eq rfl rfl
    · exact ⟨fun hp => absurd hp ‹_›, .inl rfl⟩
  case tableCommit =>
    intro s
    unfold Machine.tableCommit
    split
    · exact .of_eq rfl rfl
    · split
      · exact .of_eq rfl rfl
      · dsimp only
        split
        · exact CommitsOnly.refl.applyCommit.moves
        · exact .of_eq rfl rfl
  case tableAbandon =>
    intro s
    unfold Machine.tableAbandon
    split <;> exact .of_eq rfl rfl
  case requestCancel =>
    intro s
    have hq : CommitsOnly s { s with requests := { s.requests with
        queue := s.requests.queue.filter fun r => decide (r.tag ≠ s.arg 0) } } := ⟨rfl, .inl rfl⟩
    exact (hq.cancelJobs (s.arg 0)).moves
  case eventAck => exact fun _ => .of_eq rfl rfl
  case softReset => exact fun _ => .of_eq rfl rfl
  case bad => exact fun _ _ => .of_eq rfl rfl
  all_goals exact fun _ => .of_eq

theorem TablesMove.takeCommand {s : State} (code : Byte) {body : State → Reply}
    (rule : ∀ u, TablesMove u (body u).state) : TablesMove s (s.takeCommand code body) := by
  unfold State.takeCommand
  split
  · exact ⟨(rule { s with port := s.port.complete code }).staging,
      (rule { s with port := s.port.complete code }).active⟩
  · exact .of_eq rfl rfl

theorem TablesMove.writeByte (s : State) (b : Byte) : TablesMove s (s.writeByte b) := by
  unfold State.writeByte
  split
  · split
    · exact .takeCommand b (TablesMove.rules b)
    · split
      · exact .of_eq
      · unfold State.windowWrite
        (repeat' split) <;> exact .of_eq rfl rfl
  · exact .of_eq rfl rfl

theorem CommitsOnly.timebaseTick (s : State) (l : Level) : CommitsOnly s (s.timebaseTick l) :=
  State.timebaseTick_keeps (CommitsOnly s) (fun _ _ h => h.congr rfl rfl (.inl rfl))
    CommitsOnly.takeArrival (fun _ _ h => h.congr rfl rfl (.inl rfl)) l .refl

/-- Settles O14: the commands one by one, the arrivals by the acts they are made of. -/
theorem tablesChangeOnlyByCommit : Obligations.TablesChangeOnlyByCommit := by
  intro c s t hc hs
  suffices h : TablesMove s t from ⟨h.staging, h.active⟩
  have arrival : ∀ a, TablesMove s (s.takeArrival a) := fun a =>
    (CommitsOnly.takeArrival s a .refl).moves
  cases hcode : commandCode c with
  | some code =>
    obtain rfl := Host.Outcome.next.inj ((exec_commandCode hcode s).symm.trans hs)
    exact .takeCommand code (TablesMove.rules code)
  | none =>
    cases c <;> first
      | cases hcode; done
      | obtain rfl := Host.Outcome.next.inj hs
    case deviceReset => exact absurd rfl hc
    case badCommand code =>
      split
      · exact .of_eq rfl rfl
      · exact .takeCommand code fun _ => .of_eq rfl rfl
    case registerWrite b => exact .writeByte s b
    case timebaseTick l => exact (CommitsOnly.timebaseTick s l).moves
    case lowerCrossing k => exact ((CommitsOnly.acts s).lowerCrossing s k .refl).moves
    case trigEdge => exact arrival .trigEdge
    case intervalTick => exact arrival .intervalTick
    case scanTimerExpiry => exact arrival .scanTimerExpiry
    case restExpiry k => exact arrival (.restExpiry k)
    case gateExpiry k => exact arrival (.gateExpiry k)
    case prechargeExpiry k => exact arrival (.prechargeExpiry k)
    case stallExpiry k => exact arrival (.stallExpiry k)
    case periodOverflow k => exact arrival (.periodOverflow k)
    case dispatchAttempt k => exact arrival (.dispatchAttempt k)
    case commitApply =>
      unfold State.commitApply
      split
      · exact CommitsOnly.refl.applyCommit.moves
      · exact .of_eq rfl rfl
    case resetRelease => exact .of_eq rfl rfl
    all_goals exact .of_eq (by simp) (by simp)

/-! ### The cycle number -/

theorem State.startCycle_cycle (s : State) : s.startCycle.scan.cycle = s.scan.cycle + 1 := by
  unfold State.startCycle
  dsimp only
  split <;> simp

theorem State.cycleStartEvent_cycle (s : State) : s.cycleStartEvent.scan.cycle = s.scan.cycle ∨
    (s.cycleStartEvent.scan.cycle = s.scan.cycle + 1 ∧ s.scan.state = .waiting) := by
  unfold State.cycleStartEvent
  split
  · rename_i hs
    exact .inr ⟨by simp [State.startCycle_cycle], hs⟩
  all_goals exact .inl rfl

theorem State.takeCommand_cycle (s : State) (code : Byte) {body : State → Reply}
    (rule : ∀ u, (body u).state.scan.cycle = u.scan.cycle) :
    (s.takeCommand code body).scan.cycle = s.scan.cycle := by
  unfold State.takeCommand
  split
  · exact rule _
  · rfl

theorem State.cancelJob_cycle (s : State) (tag : Byte) (c : CellId) :
    (s.cancelJob tag c).scan.cycle = s.scan.cycle := by
  unfold State.cancelJob
  (repeat' split) <;> simp

theorem requestCancel_cycle (s : State) :
    (requestCancel s).state.scan.cycle = s.scan.cycle := by
  unfold Machine.requestCancel State.cancelJobs
  simp only [Reply.done_state]
  split <;> simp only [State.cancelJob_cycle]

/-- Settles O15: an expiry and an edge hand a cycle-start event on, SCAN_ONCE starts a cycle itself,
and no other row of those named reaches the number. -/
theorem cycleNumberMovesAtCycleStarts : Obligations.CycleNumberMovesAtCycleStarts := by
  intro c s t device soft register tick hs
  cases c <;> obtain rfl := Host.Outcome.next.inj hs
  case deviceReset => exact absurd rfl device
  case softReset => exact absurd rfl soft
  case registerWrite b => exact absurd rfl (register b)
  case timebaseTick l => exact absurd rfl (tick l)
  case scanOnce =>
    unfold State.takeCommand
    split
    · dsimp only
      unfold Machine.scanOnce
      split
      · exact .inr ⟨State.startCycle_cycle _, .inr ⟨‹_›, rfl⟩⟩
      · exact .inl rfl
    · exact .inl rfl
  case scanTimerExpiry =>
    unfold State.scanTimerExpiry
    split
    · exact (State.cycleStartEvent_cycle _).imp_right fun ⟨hc, hw⟩ => ⟨hc, .inl ⟨hw, .inl rfl⟩⟩
    · exact .inl rfl
  case trigEdge =>
    unfold State.trigEdge
    split
    · dsimp only
      split
      · exact (State.cycleStartEvent_cycle _).imp_right fun ⟨hc, hw⟩ =>
          ⟨hc, .inl ⟨hw, .inr rfl⟩⟩
      · exact .inl rfl
    · exact .inl rfl
  case badCommand code =>
    refine .inl ?_
    split
    · rfl
    · exact s.takeCommand_cycle code fun _ => rfl
  case requestCancel => exact .inl (s.takeCommand_cycle _ requestCancel_cycle)
  case resetRelease => exact .inl rfl
  all_goals first
    | exact .inl (s.takeCommand_cycle _ (by intro u; simp))
    | exact .inl (by simp)

end Sys2Proof.Machine
end

section
-- One declaration at a time: the stacks of parallel elaboration do not fit under the memory limit.
set_option Elab.async false
/-!
The operands of the commands: what each decoder of an argument byte accepts and refuses, and how a
rule's answer reaches the row.
-/
namespace Sys2Proof.Machine

/-- A command row from what its rule answers for the same state. -/
theorem exec_of_reply {i : Instr} {code : Byte} {rule : State → Reply} {s t : State}
    {st : CommandStatus} {b0 b1 b2 b3 : Byte} (row : commandCode i = some code)
    (decodes : commandOf code = rule) (at_command : s.atCommand = true)
    (answers : rule s = ⟨st, #v[b0, b1, b2, b3], t⟩) :
    exec i s = .next (t.reported code st b0 b1 b2 b3) :=
  exec_command_of_reply (exec_commandCode row s) at_command (by rw [decodes, answers])

/-! ### Numbers in a byte -/

theorem cellOfByte_cellNumber (c : CellId) : cellOfByte (cellNumber c) = some c := by
  cases c <;> rfl

theorem byte_ne_of_lt {b : Byte} {n : Nat} (h : n < b.toNat) {m : Byte} (hm : m.toNat ≤ n) :
    b ≠ m := by
  rintro rfl
  omega

theorem cellOfByte_none {b : Byte} (h : 1 < b.toNat) : cellOfByte b = none := by
  unfold cellOfByte
  rw [if_neg (byte_ne_of_lt h (by decide)), if_neg (byte_ne_of_lt h (by decide))]

theorem flagOfByte_flagByte (b : Bool) : flagOfByte (flagByte b) = some b := by cases b <;> rfl

theorem flagOfByte_none {b : Byte} (h : 1 < b.toNat) : flagOfByte b = none := by
  unfold flagOfByte
  rw [if_neg (byte_ne_of_lt h (by decide)), if_neg (byte_ne_of_lt h (by decide))]

theorem sourceOfByte_code (x : Source) : sourceOfByte x.code = some x := by cases x <;> rfl

theorem sourceOfByte_none {b : Byte} (h : 1 < b.toNat) : sourceOfByte b = none := by
  unfold sourceOfByte
  rw [if_neg (byte_ne_of_lt h (by decide)), if_neg (byte_ne_of_lt h (by decide))]

theorem edgeOfByte_code (e : Edge) : edgeOfByte e.code = some e := by cases e <;> rfl

theorem edgeOfByte_none {b : Byte} (h : 1 < b.toNat) : edgeOfByte b = none := by
  unfold edgeOfByte
  rw [if_neg (byte_ne_of_lt h (by decide)), if_neg (byte_ne_of_lt h (by decide))]

theorem channelOfByte_of_toNat {b : Byte} {ch : Fin 10} (h : b.toNat = ch.val) :
    channelOfByte b = some ch := by
  unfold channelOfByte
  rw [dif_pos (by omega)]
  exact congrArg some (Fin.ext h)

theorem channelOfByte_none {b : Byte} (h : 9 < b.toNat) : channelOfByte b = none := by
  unfold channelOfByte
  rw [dif_neg (by omega)]

theorem profileOfByte_of_toNat {b : Byte} {p : Fin 4} (h : b.toNat = p.val) :
    profileOfByte b = some p := by
  unfold profileOfByte
  rw [dif_pos (by omega)]
  exact congrArg some (Fin.ext h)

theorem profileOfByte_none {b : Byte} (h : 3 < b.toNat) : profileOfByte b = none := by
  unfold profileOfByte
  rw [dif_neg (by omega)]

theorem indexOfByte_of_toNat {b : Byte} {i : Fin 16} (h : b.toNat = i.val) :
    indexOfByte b = some i := by
  unfold indexOfByte
  rw [dif_pos (by omega)]
  exact congrArg some (Fin.ext h)

theorem indexOfByte_none {b : Byte} (h : 15 < b.toNat) : indexOfByte b = none := by
  unfold indexOfByte
  rw [dif_neg (by omega)]

/-- A number below 256 in a byte. -/
theorem toNat_ofNat_byte {b : Byte} {n : Nat} (h : b = BitVec.ofNat 8 n) (hn : n < 256) :
    b.toNat = n := by
  rw [h, BitVec.toNat_ofNat, Nat.mod_eq_of_lt hn]

theorem averagingOfByte_of_toNat {b : Byte} {m : Averaging} (h : b.toNat = m.toNat) :
    averagingOfByte b = some m := by
  obtain rfl : b = BitVec.ofNat 8 m.toNat := by
    refine BitVec.eq_of_toNat_eq ?_
    rw [h]
    cases m <;> rfl
  cases m <;> rfl

/-- M is one of its five values (R17). -/
theorem averagingOfByte_isSome_iff (b : Byte) :
    (averagingOfByte b).isSome = true ↔ b.toNat ∈ [1, 2, 4, 8, 16] := by
  revert b
  decide

theorem averagingOfByte_none {b : Byte} (h : b.toNat ∉ [1, 2, 4, 8, 16]) :
    averagingOfByte b = none := by
  rw [← averagingOfByte_isSome_iff, Bool.not_eq_true, Option.isSome_eq_false_iff,
    Option.isNone_iff_eq_none] at h
  exact h

theorem prescaleOfByte_of_toNat {b : Byte} {p : Prescale} (h : p.toNat = b.toNat) :
    prescaleOfByte b = some p := by
  obtain rfl : b = BitVec.ofNat 8 p.toNat := by
    refine BitVec.eq_of_toNat_eq ?_
    rw [h]
    simp [Nat.mod_eq_of_lt b.isLt]
  cases p <;> rfl

theorem prescaleOfByte_isSome_iff (b : Byte) :
    (prescaleOfByte b).isSome = true ↔ b ∈ [1, 2, 4, 8] := by
  revert b
  decide

theorem prescaleOfByte_none {b : Byte} (h : b ∉ [1, 2, 4, 8]) : prescaleOfByte b = none := by
  rw [← prescaleOfByte_isSome_iff, Bool.not_eq_true, Option.isSome_eq_false_iff,
    Option.isNone_iff_eq_none] at h
  exact h

end Sys2Proof.Machine
end

section
-- One declaration at a time: the stacks of parallel elaboration do not fit under the memory limit.
set_option Elab.async false
/-!
CELL_ENABLE (R4), CHANNEL_SET and CHANNEL_CLEAR_FAULT (R45, R46).
-/
namespace Sys2Proof.Machine

theorem cellEnable_of_cell {s : State} {c : CellId} (h : s.arg 0 = cellNumber c) :
    cellEnable s = .done 0 0 0 0 (s.setCell c (s.cell c).enable) := by
  unfold Machine.cellEnable
  rw [h, cellOfByte_cellNumber]

/-- Writing a cell back as it stands changes nothing. -/
theorem State.setCell_cell (s : State) (c : CellId) : s.setCell c (s.cell c) = s := by
  cases c <;> rfl

/-- Settles O18: the rule on a DOWN cell, on any other, and on a byte that names none. -/
theorem cellEnableRestsADownCell : Obligations.CellEnableRestsADownCell := by
  intro s c at_command
  refine ⟨fun h down => ?_, fun h up => ?_, fun h => ?_⟩
  · refine exec_of_reply (rule := cellEnable) rfl rfl at_command ((cellEnable_of_cell h).trans ?_)
    rw [Cell.enable, if_pos down]
    rfl
  · refine exec_of_reply (rule := cellEnable) rfl rfl at_command ((cellEnable_of_cell h).trans ?_)
    rw [Cell.enable, if_neg up, State.setCell_cell]
    rfl
  · refine exec_of_reply (rule := cellEnable) rfl rfl at_command ?_
    unfold Machine.cellEnable
    rw [cellOfByte_none h]
    rfl

theorem channelSet_of_args {s : State} {ch : Fin 10} {e : Bool}
    (h0 : s.arg 0 = BitVec.ofNat 8 ch.val) (h1 : s.arg 1 = flagByte e) :
    channelSet s = .done (s.arg 0) (flagByte (s.channel ch).enabled) (flagByte e)
      (s.channel ch).health.code (s.setEnabled ch e) := by
  unfold Machine.channelSet
  rw [channelOfByte_of_toNat (toNat_ofNat_byte h0 (by omega)), h1, flagOfByte_flagByte]

/-- Writing a channel record back as it stands changes nothing. -/
theorem State.setChannel_channel (s : State) (ch : Fin 10) : s.setChannel ch (s.channel ch) = s := by
  unfold State.setChannel State.channel
  simp

theorem isReference_eq_true {ch : Fin 10} : isReference ch = true ↔ 8 ≤ ch.val := by
  simp [isReference]

/-- Settles O20: CHANNEL_SET by the field before and after, CHANNEL_CLEAR_FAULT by its one case, and
the bytes that name no channel or no value. -/
theorem channelCommandsHandOn : Obligations.ChannelCommandsHandOn := by
  refine ⟨fun s ch e at_command h0 h1 => ?_, fun s at_command => ⟨fun ch h0 => ?_, fun h => ?_,
    fun h => ?_⟩⟩
  · have row : ∀ t, s.setEnabled ch e = t → exec .channelSet s = .next (t.reported 0x18 .done
        (s.arg 0) (flagByte (s.channel ch).enabled) (flagByte e) (s.channel ch).health.code) := by
      rintro t rfl
      exact exec_of_reply (rule := channelSet) rfl rfl at_command (channelSet_of_args h0 h1)
    refine ⟨fun he hn hr => row _ ?_, fun he hn hr => row _ ?_, fun he hn hf => row _ ?_,
      fun he hn hf => row _ ?_, fun he => row _ ?_⟩
    · exact if_pos ⟨he, hn, isReference_eq_true.mpr hr⟩
    · unfold State.setEnabled
      dsimp only
      rw [if_neg (by simp [isReference]; omega), if_neg (by simp [he])]
    · unfold State.setEnabled
      dsimp only
      rw [if_neg (by simp [he]), if_pos ⟨he, hn, hf⟩]
    · unfold State.setEnabled
      dsimp only
      rw [if_neg (by simp [he]), if_neg (by simp [hf])]
    · unfold State.setEnabled
      dsimp only
      rw [if_neg (by rintro ⟨h1, h2, -⟩; rw [h1, h2] at he; cases he),
        if_neg (by rintro ⟨h1, h2, -⟩; rw [h1, h2] at he; cases he)]
      have same : ({ s.channel ch with enabled := e } : ChannelRecord) = s.channel ch := by rw [← he]
      rw [same, State.setChannel_channel]
  · refine exec_of_reply (rule := channelClearFault) rfl rfl at_command ?_
    unfold Machine.channelClearFault
    rw [channelOfByte_of_toNat (toNat_ofNat_byte h0 (by omega))]
    rfl
  · refine exec_of_reply (rule := channelClearFault) rfl rfl at_command ?_
    unfold Machine.channelClearFault
    rw [channelOfByte_none h]
    rfl
  · refine exec_of_reply (rule := channelSet) rfl rfl at_command ?_
    unfold Machine.channelSet
    obtain h | h := h
    · rw [channelOfByte_none h]
      rfl
    · rw [flagOfByte_none h]
      cases channelOfByte (s.arg 0) <;> rfl

end Sys2Proof.Machine
end

section
-- One declaration at a time: the stacks of parallel elaboration do not fit under the memory limit.
set_option Elab.async false
/-!
TIMEBASE_SET (R172) and the commands of the scan (R64 to R67, R175).
-/
namespace Sys2Proof.Machine

/-! ### TIMEBASE_SET -/

theorem timebaseSet_of_prescale {s : State} {p : Prescale}
    (h : prescaleOfByte (s.arg 0) = some p) :
    timebaseSet s = if s.arg12.toNat < 100 then .refuse .badParameter 2 0 0 0 s
      else if s.timebaseObstacle ≠ 0 then .refuse .busy s.timebaseObstacle 0 0 0 s
      else .done (s.arg 0) (s.arg 1) (s.arg 2)
        (BitVec.ofNat 8 (s.validCount .a + s.validCount .b)) (s.setTimebase p s.arg12) := by
  unfold Machine.timebaseSet
  rw [h]

/-- Some cell is in a state other than DOWN and IDLE (R172). -/
theorem State.cellBusy_iff (s : State) : (s.cells.a.busy || s.cells.b.busy) = true ↔
    ∃ c, (s.cell c).state ≠ .down ∧ (s.cell c).state ≠ .idle := by
  simp only [Cell.busy, Bool.or_eq_true, decide_eq_true_eq]
  constructor
  · rintro (h | h)
    · exact ⟨.a, h⟩
    · exact ⟨.b, h⟩
  · rintro ⟨_ | _, h⟩
    · exact .inl h
    · exact .inr h

theorem State.timebaseObstacle_of {s : State} {busy : Bool}
    (h : busy = true ↔ ∃ c, (s.cell c).state ≠ .down ∧ (s.cell c).state ≠ .idle) :
    s.timebaseObstacle = flagByte busy + 2 * flagByte (decide (s.scan.state ≠ .stopped)) := by
  have : (s.cells.a.busy || s.cells.b.busy) = busy := by
    rw [Bool.eq_iff_iff, State.cellBusy_iff, h]
  rw [State.timebaseObstacle, this]

/-- Settles O22: the checks in their order, and the obstacle by its two parts. -/
theorem timebaseSetRestartsOrIsRefused : Obligations.TimebaseSetRestartsOrIsRefused := by
  intro s at_command cellBusy
  have row : ∀ {st b0 b1 b2 b3 t}, timebaseSet s = ⟨st, #v[b0, b1, b2, b3], t⟩ →
      exec .timebaseSet s = .next (t.reported 0x20 st b0 b1 b2 b3) := fun h =>
    exec_of_reply (rule := timebaseSet) rfl rfl at_command h
  refine ⟨fun h => row ?_, fun h low => ?_, fun h high => ?_⟩
  · unfold Machine.timebaseSet
    rw [prescaleOfByte_none h]
    rfl
  · obtain ⟨p, hp⟩ := Option.isSome_iff_exists.mp ((prescaleOfByte_isSome_iff _).mpr h)
    refine row ((timebaseSet_of_prescale hp).trans ?_)
    rw [if_pos low]
    rfl
  · obtain ⟨p, hp⟩ := Option.isSome_iff_exists.mp ((prescaleOfByte_isSome_iff _).mpr h)
    have busy : ∀ {n : Byte}, s.timebaseObstacle = n → n ≠ 0 →
        exec .timebaseSet s = .next (s.reported 0x20 .busy n 0 0 0) := by
      intro n ho hn
      refine row ((timebaseSet_of_prescale hp).trans ?_)
      rw [if_neg (Nat.not_lt.mpr high), ho, if_pos hn]
      rfl
    refine ⟨fun hb hs => busy ?_ (by decide), fun hb hs => busy ?_ (by decide),
      fun hb hs => busy ?_ (by decide), fun hb hs p' hp' => row ?_⟩
    · rw [State.timebaseObstacle_of (busy := true) (iff_of_true rfl hb), hs]
      rfl
    · rw [State.timebaseObstacle_of (busy := false) (iff_of_false Bool.false_ne_true hb), decide_eq_true hs]
      rfl
    · rw [State.timebaseObstacle_of (busy := true) (iff_of_true rfl hb), decide_eq_true hs]
      rfl
    · have clear : s.timebaseObstacle = 0 := by
        rw [State.timebaseObstacle_of (busy := false) (iff_of_false Bool.false_ne_true hb), hs]
        rfl
      rw [timebaseSet_of_prescale (prescaleOfByte_of_toNat hp'), if_neg (Nat.not_lt.mpr high),
        clear]
      rfl

/-! ### SCAN_CONFIG -/

theorem scanConfig_of_args {s : State} {x : Source} {e : Edge} (hp : s.arg01 ≠ 0)
    (hx : s.arg 2 = x.code) (he : s.arg 3 = e.code) :
    scanConfig s = if s.scan.state = .stopped then
        .done x.code e.code 0 0
          (s.handPeriod s.arg01 |>.setScan { s.scan with source := x, edge := e })
      else if x = s.scan.source ∧ e = s.scan.edge then
        .done x.code e.code 0 0 (s.handPeriod s.arg01)
      else .refuse .busy 0 0 0 0 s := by
  unfold Machine.scanConfig
  rw [hx, he, sourceOfByte_code, edgeOfByte_code]
  dsimp only
  rw [if_neg hp]

/-- Settles O23: the values first, then the state, then what is in force. -/
theorem scanConfigHandsThePeriod : Obligations.ScanConfigHandsThePeriod := by
  intro s at_command
  have row : ∀ {st b0 b1 b2 b3 t}, scanConfig s = ⟨st, #v[b0, b1, b2, b3], t⟩ →
      exec .scanConfig s = .next (t.reported 0x28 st b0 b1 b2 b3) := fun h =>
    exec_of_reply (rule := scanConfig) rfl rfl at_command h
  refine ⟨fun h => row ?_, fun x e hp hx he => ⟨fun hs => row ?_, fun hs hsrc hedge => row ?_,
    fun hs hd => row ?_⟩⟩
  · unfold Machine.scanConfig
    split
    · rename_i x e hx he
      obtain h | h | h := h
      · rw [if_pos h]
        rfl
      · rw [sourceOfByte_none h] at hx
        cases hx
      · rw [edgeOfByte_none h] at he
        cases he
    · rfl
  · rw [scanConfig_of_args hp hx he, if_pos hs, State.handPeriod, if_pos hs]
    rfl
  · rw [scanConfig_of_args hp hx he, if_neg hs, if_pos ⟨hsrc, hedge⟩, State.handPeriod, if_neg hs]
    rfl
  · rw [scanConfig_of_args hp hx he, if_neg hs, if_neg (by rintro ⟨h1, h2⟩; simp [h1, h2] at hd)]
    rfl

/-! ### SCAN_START and SCAN_STOP -/

theorem scanStart_of_stopped {s : State} (h : s.scan.state = .stopped) :
    scanStart s = .done (byteOf s.scan.cycle.toNat 0) (byteOf s.scan.cycle.toNat 1) 0 0
      s.startScan := if_pos h

theorem State.stopScan_waiting {s : State} (h : s.scan.state = .waiting) :
    s.stopScan = s.reachStopped := by
  unfold State.stopScan
  rw [h]

theorem State.stopScan_cycle {s : State} (h : s.scan.state = .cycle) :
    s.stopScan =
      let u := s.setScan { s.scan with due := [], single := false }
      if s.scan.jobsInFlight = 0 then u.reachStopped
      else { u with
        scan := { u.scan with state := .stopping }
        timer := { u.timer with running := false } } := by
  unfold State.stopScan
  rw [h]
  rfl

theorem State.stopScan_stays {s : State} (h : s.scan.state = .stopped ∨ s.scan.state = .stopping) :
    s.stopScan = s := by
  unfold State.stopScan
  obtain h | h := h <;> rw [h]

/-- Settles O24: SCAN_START by the state and the source; SCAN_STOP by the state and the jobs in
flight. -/
theorem scanStartWaitsAndScanStopStops : Obligations.ScanStartWaitsAndScanStopStops := by
  refine ⟨fun s at_command => ?_, fun s at_command => ?_⟩
  · refine ⟨fun hs hx => ?_, fun hs hx => ?_, fun hs => ?_⟩
    · refine exec_of_reply (rule := scanStart) rfl rfl at_command
        ((scanStart_of_stopped hs).trans ?_)
      rw [State.startScan, if_pos hx]
      rfl
    · refine exec_of_reply (rule := scanStart) rfl rfl at_command
        ((scanStart_of_stopped hs).trans ?_)
      rw [State.startScan, if_neg (by simp [hx])]
      rfl
    · exact exec_of_reply (rule := scanStart) rfl rfl at_command (if_neg hs)
  · have row : ∀ t b0 b1 b2, s.stopScan = t → t.scan.state.code = b0 →
        BitVec.ofNat 8 s.stopRemoves = b1 → BitVec.ofNat 8 t.scan.jobsInFlight = b2 →
        exec .scanStop s = .next (t.reported 0x2B .done b0 b1 b2 0) := by
      rintro t b0 b1 b2 rfl rfl rfl rfl
      exact exec_of_reply (rule := scanStop) rfl rfl at_command rfl
    have removes : s.scan.state ≠ .cycle → s.stopRemoves = 0 := fun h => if_neg h
    have stopped : ∀ u : State, u.reachStopped.scan.state = .stopped := fun u => by
      rw [u.reachStopped_stops.scan]
    have flight : ∀ u : State, u.reachStopped.scan.jobsInFlight = u.scan.jobsInFlight := fun u => by
      rw [u.reachStopped_stops.scan]
    refine ⟨fun hs => row _ _ _ _ (State.stopScan_waiting hs) ?_ ?_ ?_, fun hs hj => ?_,
      fun hs hj => ?_, fun hs => row _ _ _ _ (State.stopScan_stays hs) rfl ?_ rfl⟩
    · exact congrArg ScanState.code (stopped s)
    · rw [removes (by simp [hs])]
      rfl
    · exact congrArg _ (flight s)
    · have stops := (State.stopScan_cycle hs).trans (if_pos hj)
      exact row (s.setScan { s.scan with due := [], single := false }).reachStopped 0 _ 0 stops
        (congrArg ScanState.code (stopped _)) (congrArg _ (if_pos hs))
        (congrArg _ ((flight _).trans hj))
    · refine row _ _ _ _ ((State.stopScan_cycle hs).trans (if_neg hj)) rfl ?_ rfl
      exact congrArg _ (if_pos hs)
    · rw [removes (by obtain h | h := hs <;> simp [h])]
      rfl

/-! ### SCAN_ONCE -/

/-- An opportunity reads nothing of the scan. -/
theorem State.offer_setScan (s : State) (x : Scan) (c : CellId) :
    (s.setScan x).offer c = (s.offer c).setScan x := by
  have free : (s.setScan x).idleFree c = s.idleFree c := rfl
  unfold State.offer
  rw [free]
  split <;> rfl

theorem State.offerBoth_setScan (s : State) (x : Scan) :
    (s.setScan x).offerBoth = s.offerBoth.setScan x := by
  rw [State.offerBoth, State.offer_setScan, State.offer_setScan]
  rfl

/-- The completion check by the scan state (R74, R75). -/
theorem State.completionCheck_single {s : State} (hs : s.scan.state = .cycle)
    (due : s.scan.due = []) (quiet : s.scan.jobsInFlight = 0) (single : s.scan.single = true) :
    s.completionCheck = (((s.raise .scanDone).setScan { s.scan with single := false }).raise
      .scanStopped).reachStopped := by
  have mark : (s.raise .scanDone).scan.single = true := single
  unfold State.completionCheck
  rw [hs]
  dsimp only
  rw [if_pos ⟨due, quiet⟩, if_pos mark]
  rfl

theorem State.completionCheck_cycle {s : State} (hs : s.scan.state = .cycle)
    (due : s.scan.due = []) (quiet : s.scan.jobsInFlight = 0) (single : s.scan.single = false) :
    s.completionCheck = (s.raise .scanDone).setScan { s.scan with state := .waiting } := by
  have mark : ¬ (s.raise .scanDone).scan.single = true := by simp [single]
  unfold State.completionCheck
  rw [hs]
  dsimp only
  rw [if_pos ⟨due, quiet⟩, if_neg mark]
  rfl

/-- STOPPED reached with the timer still, no period and no commit pending. -/
theorem State.reachStopped_still {s : State} (pending : s.scan.commitPending = false)
    (running : s.timer.running = false) (period : s.timer.pendingPeriod = none) :
    s.reachStopped = s.setScan { s.scan with state := .stopped } := by
  have timer : ({ s.timer with
      running := false, period := s.timer.pendingPeriod.getD s.timer.period,
      pendingPeriod := none } : ScanTimer) = s.timer := by
    generalize s.timer = t at running period ⊢
    cases t
    simp_all
  unfold State.reachStopped
  rw [timer, State.applyPending, if_neg (by simp [pending])]
  rfl

/-- Without a running timer, a pending commit or a due list of its own, STOPPED is the state that a
cycle with nothing due returns to. -/
theorem ScanConsistent.stopped_registers {s : State} (h : ScanConsistent s)
    (hs : s.scan.state = .stopped) : s.scan.due = [] ∧ s.scan.single = false ∧
      s.scan.jobsInFlight = 0 ∧ s.scan.commitPending = false ∧ s.timer.running = false ∧
      s.timer.pendingPeriod = none := by
  refine ⟨h.due (by simp [hs]), ?_, h.quiet (.inl hs), ?_, ?_, h.period hs⟩
  · by_contra hn
    have := h.single (by simpa using hn)
    simp [hs] at this
  · by_contra hn
    exact h.pending (by simpa using hn) hs
  · by_contra hn
    obtain ⟨-, hw | ⟨hw, -⟩⟩ := h.running (by simpa using hn) <;> simp [hs] at hw

theorem State.startCycle_due {s : State} (h : s.dueList (s.scan.cycle + 1) ≠ []) :
    s.startCycle = (s.setScan { s.scan with
      cycle := s.scan.cycle + 1, due := s.dueList (s.scan.cycle + 1), state := .cycle }).offerBoth :=
  if_neg (by simpa using h)

theorem State.startCycle_empty {s : State} (h : s.dueList (s.scan.cycle + 1) = []) :
    s.startCycle = (s.offerBoth.setScan { s.scan with
      cycle := s.scan.cycle + 1, due := [], state := .cycle }).completionCheck := by
  unfold State.startCycle
  dsimp only
  rw [h, State.offerBoth_setScan]
  exact if_pos rfl

/-- The last value given to the scan's registers counts. -/
theorem State.setScan_raise_setScan (s : State) (x y z : Scan) (e f : LatchedEvent) :
    ((((s.setScan x).raise e).setScan y).raise f).setScan z =
      ((s.setScan z).raise e).raise f := rfl

theorem State.startCycle_once_empty {s : State} (h : ScanConsistent s)
    (hs : s.scan.state = .stopped) (empty : s.dueList (s.scan.cycle + 1) = []) :
    (s.setScan { s.scan with single := true }).startCycle =
      ((s.setScan { s.scan with cycle := s.scan.cycle + 1 }).offerBoth.raise .scanDone).raise
        .scanStopped := by
  obtain ⟨due, single, quiet, pending, running, period⟩ := h.stopped_registers hs
  have registers : ({ s.scan with
      cycle := s.scan.cycle + 1, due := [], state := .stopped, single := false } : Scan) =
      { s.scan with cycle := s.scan.cycle + 1 } := by
    rw [← due, ← single, ← hs]
  rw [State.startCycle_empty (by exact empty), State.offerBoth_setScan, State.offerBoth_setScan]
  change (s.offerBoth.setScan { s.scan with
    cycle := s.scan.cycle + 1, due := [], state := .cycle, single := true }).completionCheck = _
  rw [State.completionCheck_single, State.reachStopped_still]
  · simp only [State.raise_scan, State.setScan_scan, State.setScan_raise_setScan]
    rw [← registers]
  · exact pending
  · simpa using running
  · simpa using period
  · rfl
  · rfl
  · exact quiet
  · rfl

/-- Settles O25: with entries due the cycle stands, with none the completion check returns to
STOPPED. -/
theorem scanOnceStartsOneCycle : Obligations.ScanOnceStartsOneCycle := by
  intro s consistent at_command
  have starts : s.scan.state = .stopped → scanOnce s =
      .done (byteOf (s.scan.cycle + 1).toNat 0) (byteOf (s.scan.cycle + 1).toNat 1)
        (BitVec.ofNat 8 (s.dueList (s.scan.cycle + 1)).length) 0
        (s.setScan { s.scan with single := true }).startCycle := fun h => if_pos h
  refine ⟨fun hs due => ?_, fun hs empty => ?_, fun hs => ?_⟩
  · refine exec_of_reply (rule := scanOnce) rfl rfl at_command ((starts hs).trans ?_)
    rw [State.startCycle_due (by exact due)]
    rfl
  · refine exec_of_reply (rule := scanOnce) rfl rfl at_command ((starts hs).trans ?_)
    rw [State.startCycle_once_empty consistent hs empty, empty]
    rfl
  · exact exec_of_reply (rule := scanOnce) rfl rfl at_command (if_neg hs)

end Sys2Proof.Machine
end

section
-- One declaration at a time: the stacks of parallel elaboration do not fit under the memory limit.
set_option Elab.async false
/-!
The commands on the scan table, the request queue and the result queue that no invariant needs:
ENTRY_WRITE and ENTRY_READ (R54, R55), TABLE_COMMIT (R57 to R60), the commands that empty a block,
REQUEST_SUBMIT (R82 to R84), RESULT_POP and RESULT_WATERMARK.
-/
namespace Sys2Proof.Machine

/-! ### ENTRY_WRITE and ENTRY_READ -/

theorem entryWrite_of_index {s : State} {i : Fin 16} (h : indexOfByte (s.arg 0) = some i) :
    entryWrite s = if s.scan.commitPending then .refuse .frozen 0 0 0 0 s
      else .done (s.arg 0) 0 0 0
        (s.setScan { s.scan with staging := s.scan.staging.set i (entryOfImage s.scan.image) }) := by
  unfold Machine.entryWrite
  rw [h]

theorem entryRead_of_args {s : State} {i : Fin 16} {active : Bool}
    (h0 : indexOfByte (s.arg 0) = some i) (h1 : flagOfByte (s.arg 1) = some active) :
    entryRead s = .done (s.arg 0) (s.arg 1) (flagByte (active && decide (i ∈ s.scan.due))) 0
      (s.setScan { s.scan with
        image := imageOfEntry (if active then s.scan.active[i] else s.scan.staging[i]) }) := by
  unfold Machine.entryRead
  rw [h0, h1]

theorem flagByte_decide (p : Prop) [Decidable p] : flagByte (decide p) = if p then 1 else 0 := by
  unfold flagByte
  by_cases h : p <;> simp [h]

/-- Settles O26: each command by the bytes it takes, and the ones it refuses. -/
theorem entryCommandsCopyEntries : Obligations.EntryCommandsCopyEntries := by
  intro s at_command
  have write : ∀ {st b0 b1 b2 b3 t}, entryWrite s = ⟨st, #v[b0, b1, b2, b3], t⟩ →
      exec .entryWrite s = .next (t.reported 0x30 st b0 b1 b2 b3) := fun h =>
    exec_of_reply (rule := entryWrite) rfl rfl at_command h
  have read : ∀ {st b0 b1 b2 b3 t}, entryRead s = ⟨st, #v[b0, b1, b2, b3], t⟩ →
      exec .entryRead s = .next (t.reported 0x31 st b0 b1 b2 b3) := fun h =>
    exec_of_reply (rule := entryRead) rfl rfl at_command h
  refine ⟨fun i h => ?_, fun h => write ?_, fun h => read ?_⟩
  · have hi := indexOfByte_of_toNat (i := i) (toNat_ofNat_byte h (by omega))
    refine ⟨fun clear => write ?_, fun pending => write ?_, fun table => ?_, fun table => ?_⟩
    · rw [entryWrite_of_index hi, if_neg (by simp [clear])]
      rfl
    · rw [entryWrite_of_index hi, if_pos pending]
      rfl
    · have hf : flagOfByte (s.arg 1) = some false := by rw [table]; rfl
      have hr := read (entryRead_of_args hi hf)
      rw [table] at hr
      exact hr
    · have hf : flagOfByte (s.arg 1) = some true := by rw [table]; rfl
      have hr := read (entryRead_of_args hi hf)
      rw [table, Bool.true_and, flagByte_decide] at hr
      exact hr
  · unfold Machine.entryWrite
    rw [indexOfByte_none h]
    rfl
  · unfold Machine.entryRead
    obtain h | h := h
    · rw [indexOfByte_none h]
      rfl
    · rw [flagOfByte_none h]
      cases indexOfByte (s.arg 0) <;> rfl

/-! ### The checks of an entry (R57) -/

/-- The range of the `n`-th check of R57. -/
def ScanEntry.InRange (e : ScanEntry) (n : Nat) : Prop :=
  match n with
  | 1 => e.channel.toNat ≤ 9
  | 2 => e.profile.toNat ≤ 3
  | 3 => e.m.toNat ∈ [1, 2, 4, 8, 16]
  | 4 => 1 ≤ e.every.toNat
  | 5 => e.phase.toNat < e.every.toNat
  | 6 => ∀ w, e.window = some w → 1 ≤ w.qualify.toNat ∧ w.qualify.toNat ≤ 15
  | 7 => ∀ w, e.window = some w → w.low.toNat < w.high.toNat
  | _ => True

theorem channelOfByte_isNone_iff (b : Byte) :
    (channelOfByte b).isNone = true ↔ ¬ b.toNat ≤ 9 := by
  unfold channelOfByte
  split <;> simp <;> omega

theorem profileOfByte_isNone_iff (b : Byte) :
    (profileOfByte b).isNone = true ↔ ¬ b.toNat ≤ 3 := by
  unfold profileOfByte
  split <;> simp <;> omega

theorem channelOfByte_isSome {b : Byte} (h : b.toNat ≤ 9) : ∃ ch, channelOfByte b = some ch :=
  ⟨⟨b.toNat, Nat.lt_succ_of_le h⟩, channelOfByte_of_toNat rfl⟩

theorem profileOfByte_isSome {b : Byte} (h : b.toNat ≤ 3) : ∃ p, profileOfByte b = some p :=
  ⟨⟨b.toNat, Nat.lt_succ_of_le h⟩, profileOfByte_of_toNat rfl⟩

theorem averagingOfByte_isNone_iff (b : Byte) :
    (averagingOfByte b).isNone = true ↔ b.toNat ∉ [1, 2, 4, 8, 16] := by
  rw [← averagingOfByte_isSome_iff]
  cases averagingOfByte b <;> simp

theorem byte_eq_zero_iff (b : Byte) : b = 0 ↔ ¬ 1 ≤ b.toNat := by
  constructor
  · rintro rfl
    decide
  · intro h
    exact BitVec.eq_of_toNat_eq (Nat.lt_one_iff.mp (Nat.lt_of_not_le h))

theorem qualify_outside_iff (b : Byte) :
    (b = 0 ∨ 15 < b.toNat) ↔ ¬ (1 ≤ b.toNat ∧ b.toNat ≤ 15) := by
  rw [byte_eq_zero_iff]
  omega

/-- The checks of an enabled entry, one after the other. -/
theorem ScanEntry.failedCheck_enabled {e : ScanEntry} (h : e.enabled = true) :
    e.failedCheck = if (channelOfByte e.channel).isNone then some 1
      else if (profileOfByte e.profile).isNone then some 2
      else if (averagingOfByte e.m).isNone then some 3
      else if e.every = 0 then some 4
      else if e.every ≤ e.phase then some 5
      else match e.window with
        | none => none
        | some w => if w.qualify = 0 ∨ 15 < w.qualify.toNat then some 6
          else if w.high ≤ w.low then some 7 else none := by
  unfold ScanEntry.failedCheck
  rw [h]
  rfl

/-- The first check that fails is that of the first range missed. -/
theorem ScanEntry.failedCheck_first {e : ScanEntry} (h : e.enabled = true) :
    (e.failedCheck = none ∧ ∀ n, e.InRange n) ∨
    ∃ n, e.failedCheck = some n ∧ 1 ≤ n ∧ n ≤ 7 ∧ ¬ e.InRange n ∧ ∀ k < n, e.InRange k := by
  rw [ScanEntry.failedCheck_enabled h]
  have below : ∀ {n}, (∀ k < n, e.InRange k) → e.InRange n → ∀ k < n + 1, e.InRange k := by
    intro n hn h k hk
    obtain hk | rfl := Nat.lt_succ_iff_lt_or_eq.mp hk
    · exact hn k hk
    · exact h
  have h0 : ∀ k < 1, e.InRange k := fun k hk => by
    obtain rfl := Nat.lt_one_iff.mp hk
    trivial
  by_cases r1 : e.InRange 1
  swap
  · exact .inr ⟨1, if_pos ((channelOfByte_isNone_iff _).mpr r1), le_rfl, by decide, r1, h0⟩
  rw [if_neg (fun h => (channelOfByte_isNone_iff _).mp h r1)]
  have h1 := below h0 r1
  by_cases r2 : e.InRange 2
  swap
  · exact .inr ⟨2, if_pos ((profileOfByte_isNone_iff _).mpr r2), by decide, by decide, r2, h1⟩
  rw [if_neg (fun h => (profileOfByte_isNone_iff _).mp h r2)]
  have h2 := below h1 r2
  by_cases r3 : e.InRange 3
  swap
  · exact .inr ⟨3, if_pos ((averagingOfByte_isNone_iff _).mpr r3), by decide, by decide, r3, h2⟩
  rw [if_neg (fun h => (averagingOfByte_isNone_iff _).mp h r3)]
  have h3 := below h2 r3
  by_cases r4 : e.InRange 4
  swap
  · exact .inr ⟨4, if_pos ((byte_eq_zero_iff _).mpr r4), by decide, by decide, r4, h3⟩
  rw [if_neg (fun h => (byte_eq_zero_iff _).mp h r4)]
  have h4 := below h3 r4
  by_cases r5 : e.InRange 5
  swap
  · exact .inr ⟨5, if_pos (BitVec.le_def.mpr (Nat.not_lt.mp r5)), by decide, by decide, r5, h4⟩
  rw [if_neg (fun h => Nat.not_lt.mpr (BitVec.le_def.mp h) r5)]
  have h5 := below h4 r5
  have all : (∀ k < 8, e.InRange k) → ∀ n, e.InRange n := by
    intro h n
    by_cases hn : n < 8
    · exact h n hn
    · obtain ⟨m, rfl⟩ := Nat.exists_eq_add_of_le' (Nat.not_lt.mp hn)
      trivial
  cases hw : e.window with
  | none =>
    have vacuous : ∀ w, e.window ≠ some w := by simp [hw]
    exact .inl ⟨rfl, all (below (below h5 fun w h => absurd h (vacuous w))
      fun w h => absurd h (vacuous w))⟩
  | some w =>
    dsimp only
    by_cases r6 : 1 ≤ w.qualify.toNat ∧ w.qualify.toNat ≤ 15
    swap
    · exact .inr ⟨6, if_pos ((qualify_outside_iff _).mpr r6), by decide, by decide,
        fun h => r6 (h w hw), h5⟩
    rw [if_neg (fun h => (qualify_outside_iff _).mp h r6)]
    have h6 := below h5 fun v hv => Option.some.inj (hw.symm.trans hv) ▸ r6
    by_cases r7 : w.low.toNat < w.high.toNat
    swap
    · exact .inr ⟨7, if_pos (BitVec.le_def.mpr (Nat.not_lt.mp r7)), by decide, by decide,
        fun h => r7 (h w hw), h6⟩
    rw [if_neg (fun h => Nat.not_lt.mpr (BitVec.le_def.mp h) r7)]
    exact .inl ⟨rfl, all (below h6 fun v hv => Option.some.inj (hw.symm.trans hv) ▸ r7)⟩

theorem ScanEntry.failedCheck_disabled {e : ScanEntry} (h : e.enabled = false) :
    e.failedCheck = none := by
  unfold ScanEntry.failedCheck
  rw [h]
  rfl

/-- Settles O29: an enabled entry by the first range it misses, if any. -/
theorem entryChecksAreTheRanges : Obligations.EntryChecksAreTheRanges := by
  intro e inRange
  cases h : e.enabled with
  | false =>
    have passes := ScanEntry.failedCheck_disabled h
    refine ⟨⟨fun _ => nofun, fun _ => passes⟩, fun n hn => ?_⟩
    rw [passes] at hn
    cases hn
  | true =>
    obtain ⟨passes, all⟩ | ⟨n, fails, first, last, misses, before⟩ := ScanEntry.failedCheck_first h
    · refine ⟨⟨fun _ _ => all, fun _ => passes⟩, fun n hn => ?_⟩
      rw [passes] at hn
      cases hn
    · refine ⟨⟨fun hp => ?_, fun all => absurd (all rfl n) misses⟩, fun m hm => ?_⟩
      · rw [fails] at hp
        cases hp
      · obtain rfl := Option.some.inj (fails.symm.trans hm)
        exact ⟨rfl, first, last, misses, before⟩

/-! ### TABLE_COMMIT -/

theorem State.applyCommit_eq (s : State) :
    s.applyCommit = ({ s with
      scan := { s.scan with active := s.scan.staging, commitPending := false }
      windows := {
        records := Vector.ofFn fun i =>
          if s.scan.staging[i] = s.scan.active[i] then s.windows.records[i]
          else WindowRecord.unknown
        changeSet := BitVec.ofFnLE fun i : Fin 16 =>
          s.windows.changeSet.getLsbD i.val && decide (s.scan.staging[i] = s.scan.active[i]) } } :
        State).raise .commitApplied := by
  have record : ∀ i : Fin 16, (if s.scan.changed i then WindowRecord.unknown
      else s.windows.records[i]) =
      if s.scan.staging[i] = s.scan.active[i] then s.windows.records[i]
      else WindowRecord.unknown := fun i => by
    by_cases h : s.scan.staging[i] = s.scan.active[i] <;> simp [Scan.changed, h]
  have member : ∀ i : Fin 16, (s.windows.changeSet.getLsbD i.val && !(s.scan.changed i)) =
      (s.windows.changeSet.getLsbD i.val && decide (s.scan.staging[i] = s.scan.active[i])) :=
    fun i => by rw [Scan.changed, decide_not, Bool.not_not]
  unfold State.applyCommit WindowMonitor.resetChanged
  simp only [record, member]

/-- The first entry that fails, in index order. -/
theorem Scan.commitFault_first {x : Scan} {i : Fin 16} {n : Nat}
    (before : ∀ k < i, (x.staging[k]).failedCheck = none)
    (fails : (x.staging[i]).failedCheck = some n) : x.commitFault = some (i, n) := by
  cases h : x.commitFault with
  | none => exact absurd (fails.symm.trans (Scan.commitFault_none h i)) nofun
  | some p =>
    obtain ⟨l₁, k, l₂, order, found, earlier⟩ := List.findSome?_eq_some_iff.mp h
    obtain ⟨m, hm, rfl⟩ := Option.map_eq_some_iff.mp found
    have sorted := List.pairwise_lt_finRange 16
    rw [order] at sorted
    obtain ⟨-, after, cross⟩ := List.pairwise_append.mp sorted
    have member : i ∈ l₁ ++ k :: l₂ := order ▸ List.mem_finRange i
    obtain early | rfl | late := by simpa using member
    · have := earlier i early
      rw [fails] at this
      cases this
    · rw [fails] at hm
      rw [Option.some.inj hm]
    · have := before k (List.rel_of_pairwise_cons after late)
      rw [hm] at this
      cases this

theorem Scan.commitFault_eq_none {x : Scan} (h : ∀ i : Fin 16, (x.staging[i]).failedCheck = none) :
    x.commitFault = none :=
  List.findSome?_eq_none_iff.mpr fun i _ => by rw [h i]; rfl

/-- Settles O28: the check by its first failing entry, the application by `State.applyCommit_eq`. -/
theorem tableCommitChecksThenApplies : Obligations.TableCommitChecksThenApplies := by
  intro s u applied count
  have hu : s.applyCommit = applied := s.applyCommit_eq
  have answers : ∀ {st b0 b1 b2 b3 t}, s.atCommand = true →
      tableCommit s = ⟨st, #v[b0, b1, b2, b3], t⟩ →
      exec .tableCommit s = .next (t.reported 0x33 st b0 b1 b2 b3) := fun at_command h =>
    exec_of_reply (rule := tableCommit) rfl rfl at_command h
  refine ⟨fun pending stopped => ?_, fun at_command pending => answers at_command ?_,
    fun at_command clear => ⟨fun i n before fails => answers at_command ?_,
      fun pass stopped => answers at_command ?_, fun pass moving => answers at_command ?_⟩⟩
  · change Host.Outcome.next s.commitApply = _
    rw [State.commitApply, if_pos ⟨pending, stopped⟩, hu]
  · rw [tableCommit, if_pos pending]
    rfl
  · rw [tableCommit, if_neg (by simp [clear]), Scan.commitFault_first before fails]
    rfl
  · rw [tableCommit, if_neg (by simp [clear]), Scan.commitFault_eq_none pass, ← hu]
    exact if_pos stopped
  · rw [tableCommit, if_neg (by simp [clear]), Scan.commitFault_eq_none pass]
    exact if_neg moving

/-! ### The commands that empty a block (R130, R85, R146) -/

/-- Settles O33: each rule has one answer but RESULT_FLUSH, whose opportunities need a record. -/
theorem flushesEmptyTheirBlock : Obligations.FlushesEmptyTheirBlock := by
  refine ⟨fun s at_command => exec_of_reply (rule := referenceInvalidate) rfl rfl at_command rfl,
    fun s at_command => exec_of_reply (rule := requestFlush) rfl rfl at_command rfl,
    fun s at_command => ?_⟩
  have answers : ∀ {st b0 b1 b2 b3 t}, resultFlush s = ⟨st, #v[b0, b1, b2, b3], t⟩ →
      exec .resultFlush s = .next (t.reported 0x49 st b0 b1 b2 b3) := fun h =>
    exec_of_reply (rule := resultFlush) rfl rfl at_command h
  refine ⟨fun some_records => answers ?_, fun no_records => answers ?_⟩
  · rw [resultFlush, if_neg some_records]
    rfl
  · rw [resultFlush, if_pos no_records]
    rfl

/-! ### REQUEST_SUBMIT -/

theorem requestSubmit_of_fields {s : State} {ch : Fin 10} {p : Fin 4} {m : Averaging}
    (hc : channelOfByte s.requests.image[1] = some ch)
    (hp : profileOfByte s.requests.image[2] = some p)
    (hm : averagingOfByte s.requests.image[3] = some m) :
    requestSubmit s =
      if (s.channel ch).enabled = false ∨ ((s.channel ch).health = .faulted ∧
          requestForce s.requests.image = false) then
        .refuse .unavailable s.requests.image[1] (flagByte (s.channel ch).enabled)
          (s.channel ch).health.code 0 s
      else if Config.requestPlaces ≤ s.requests.queue.length then .refuse .queueFull 8 0 0 0 s
      else
        .done (BitVec.ofNat 8 (s.requests.queue.length + 1)) s.requests.image[0]
          (BitVec.ofNat 8 (s.queuedFor (cellOf ch) + 1)) 0
          (s.submit { tag := s.requests.image[0], channel := ch, profile := p, m := m,
                      ratio := requestRatio s.requests.image,
                      force := requestForce s.requests.image }) := by
  unfold requestSubmit
  dsimp only
  rw [hc, hp, hm]

/-- Settles O34: the checks of the image in order, then those of the channel and the queue. -/
theorem requestSubmitJoinsTheTail : Obligations.RequestSubmitJoinsTheTail := by
  intro s at_command img
  have answers : ∀ {st b0 b1 b2 b3 t}, requestSubmit s = ⟨st, #v[b0, b1, b2, b3], t⟩ →
      exec .requestSubmit s = .next (t.reported 0x40 st b0 b1 b2 b3) := fun h =>
    exec_of_reply (rule := requestSubmit) rfl rfl at_command h
  refine ⟨fun h => answers ?_, fun h1 h2 => answers ?_, fun h1 h2 h3 => answers ?_, ?_⟩
  · have hch : channelOfByte s.requests.image[1] = none := channelOfByte_none h
    unfold requestSubmit
    dsimp only
    rw [hch]
    rfl
  · obtain ⟨ch, hch⟩ : ∃ ch, channelOfByte s.requests.image[1] = some ch := channelOfByte_isSome h1
    have hp : profileOfByte s.requests.image[2] = none := profileOfByte_none h2
    unfold requestSubmit
    dsimp only
    rw [hch, hp]
    rfl
  · obtain ⟨ch, hch⟩ : ∃ ch, channelOfByte s.requests.image[1] = some ch := channelOfByte_isSome h1
    obtain ⟨p, hp⟩ : ∃ p, profileOfByte s.requests.image[2] = some p := profileOfByte_isSome h2
    have hm : averagingOfByte s.requests.image[3] = none := averagingOfByte_none h3
    unfold requestSubmit
    dsimp only
    rw [hch, hp, hm]
    rfl
  · intro ch p m hch hp hm k force
    have rule := requestSubmit_of_fields (s := s) (channelOfByte_of_toNat hch)
      (profileOfByte_of_toNat hp) (averagingOfByte_of_toNat hm)
    refine ⟨fun unavailable => answers ?_, fun enabled usable =>
      ⟨fun full => answers ?_, fun room => answers ?_⟩⟩
    · rw [rule]
      exact if_pos unavailable
    all_goals
      have available : ¬ ((s.channel ch).enabled = false ∨ ((s.channel ch).health = .faulted ∧
          requestForce s.requests.image = false)) := by
        rintro (disabled | ⟨faulted, unforced⟩)
        · exact absurd (enabled.symm.trans disabled) nofun
        · obtain good | forced := usable
          · exact good faulted
          · exact absurd (forced.symm.trans unforced) nofun
      rw [rule, if_neg available]
    · rw [if_pos full]
      rfl
    · rw [if_neg (Nat.not_le.mpr room)]
      rfl

/-! ### RESULT_POP and RESULT_WATERMARK -/

/-- Settles O36: the head record, or none; the watermark in its range, or not. -/
theorem resultPopAndWatermark : Obligations.ResultPopAndWatermark := by
  refine ⟨fun s at_command => ?_, fun s at_command => ?_⟩
  · have answers : ∀ {st b0 b1 b2 b3 t}, resultPop s = ⟨st, #v[b0, b1, b2, b3], t⟩ →
        exec .resultPop s = .next (t.reported 0x48 st b0 b1 b2 b3) := fun h =>
      exec_of_reply (rule := resultPop) rfl rfl at_command h
    refine ⟨fun r rest head => answers ?_, fun no_records => answers ?_⟩
    · unfold resultPop
      rw [head]
      rfl
    · unfold resultPop
      rw [no_records]
      rfl
  · have answers : ∀ {st b0 b1 b2 b3 t}, resultWatermark s = ⟨st, #v[b0, b1, b2, b3], t⟩ →
        exec .resultWatermark s = .next (t.reported 0x4A st b0 b1 b2 b3) := fun h =>
      exec_of_reply (rule := resultWatermark) rfl rfl at_command h
    refine ⟨fun low high => ⟨_, answers ?_, rfl, decide_eq_true_iff⟩, fun outside => answers ?_⟩
    · rw [resultWatermark, if_neg]
      · rfl
      · rw [byte_eq_zero_iff]
        omega
    · rw [resultWatermark, if_pos]
      · rfl
      · rw [byte_eq_zero_iff]
        omega

end Sys2Proof.Machine
end

section
-- One declaration at a time: the stacks of parallel elaboration do not fit under the memory limit.
set_option Elab.async false
/-!
The images (R30, R53, R202, R203) byte by byte, and PROFILE_WRITE and PROFILE_READ (R31 to R34).
-/
namespace Sys2Proof.Machine

/-! ### Numbers of two and three bytes -/

theorem le16_toNat (b0 b1 : Byte) : (le16 b0 b1).toNat = b0.toNat + 256 * b1.toNat := by
  have h0 := b0.isLt
  rw [le16, BitVec.toNat_append, Nat.shiftLeft_eq, Nat.mul_comm, ← Nat.two_pow_add_eq_or_of_lt h0]
  omega

theorem le24_toNat (b0 b1 b2 : Byte) :
    (le24 b0 b1 b2).toNat = b0.toNat + 256 * b1.toNat + 65536 * b2.toNat := by
  have h := (le16 b0 b1).isLt
  have joined : (le24 b0 b1 b2).toNat = b2.toNat <<< 16 ||| (le16 b0 b1).toNat :=
    BitVec.toNat_append b2 (le16 b0 b1)
  rw [joined, Nat.shiftLeft_eq, Nat.mul_comm, ← Nat.two_pow_add_eq_or_of_lt h, le16_toNat]
  omega

theorem byteOf_toNat (n k : Nat) : (byteOf n k).toNat = n / 256 ^ k % 256 := BitVec.toNat_ofNat _ _

theorem two_bytes {n : Nat} (h : n < 65536) :
    (byteOf n 0).toNat + 256 * (byteOf n 1).toNat = n := by
  rw [byteOf_toNat, byteOf_toNat]
  omega

theorem three_bytes {n : Nat} (h : n < 16777216) :
    (byteOf n 0).toNat + 256 * (byteOf n 1).toNat + 65536 * (byteOf n 2).toNat = n := by
  rw [byteOf_toNat, byteOf_toNat, byteOf_toNat]
  omega

theorem one_byte {n : Nat} (h : n < 256) : (byteOf n 0).toNat = n := by
  rw [byteOf_toNat]
  omega

theorem le16_byteOf {n : Nat} (h : n < 65536) : (le16 (byteOf n 0) (byteOf n 1)).toNat = n := by
  rw [le16_toNat, two_bytes h]

theorem le16_of_bitVec (x : BitVec 16) : le16 (byteOf x.toNat 0) (byteOf x.toNat 1) = x :=
  BitVec.eq_of_toNat_eq (le16_byteOf x.isLt)

theorem le24_of_bitVec (x : BitVec 24) :
    le24 (byteOf x.toNat 0) (byteOf x.toNat 1) (byteOf x.toNat 2) = x :=
  BitVec.eq_of_toNat_eq (by rw [le24_toNat, three_bytes x.isLt])

/-! ### The entry image -/

/-- Byte 0 of an entry image. -/
def entryFlags (e : ScanEntry) : Byte :=
  flagByte e.enabled ||| (flagByte e.ratio <<< 1) ||| (flagByte e.window.isSome <<< 2)

theorem entryFlags_getLsbD (e : ScanEntry) :
    (entryFlags e).getLsbD 0 = e.enabled ∧ (entryFlags e).getLsbD 1 = e.ratio ∧
      (entryFlags e).getLsbD 2 = e.window.isSome := by
  have all : ∀ x y z : Bool, ∀ f : Byte,
      f = flagByte x ||| (flagByte y <<< 1) ||| (flagByte z <<< 2) →
        f.getLsbD 0 = x ∧ f.getLsbD 1 = y ∧ f.getLsbD 2 = z := by
    rintro x y z _ rfl
    revert x y z
    decide
  exact all _ _ _ _ rfl

theorem entryFlags_toNat (e : ScanEntry) :
    (entryFlags e).toNat = (if e.enabled then 1 else 0) + (if e.ratio then 2 else 0) +
      (if e.window = none then 0 else 4) := by
  have all : ∀ x y z : Bool,
      (flagByte x ||| (flagByte y <<< 1) ||| (flagByte z <<< 2)).toNat =
        (if x then 1 else 0) + (if y then 2 else 0) + (if z then 4 else 0) := by decide
  rw [entryFlags, all]
  cases e.window <;> rfl

theorem imageOfEntry_none {e : ScanEntry} (h : e.window = none) :
    imageOfEntry e =
      #v[entryFlags e, e.channel, e.profile, e.m, e.every, e.phase, 0, 0, 0, 0, 0, 0, 0, 0, 0] := by
  unfold imageOfEntry entryFlags
  rw [h]

theorem imageOfEntry_some {e : ScanEntry} {w : Window} (h : e.window = some w) :
    imageOfEntry e =
      #v[entryFlags e, e.channel, e.profile, e.m, e.every, e.phase, w.qualify,
        byteOf w.low.toNat 0, byteOf w.low.toNat 1, byteOf w.low.toNat 2,
        byteOf w.high.toNat 0, byteOf w.high.toNat 1, byteOf w.high.toNat 2,
        byteOf w.hysteresis.toNat 0, byteOf w.hysteresis.toNat 1] := by
  unfold imageOfEntry entryFlags
  rw [h]

theorem imageOfEntry_head (e : ScanEntry) :
    (imageOfEntry e)[0] = entryFlags e ∧ (imageOfEntry e)[1] = e.channel ∧
      (imageOfEntry e)[2] = e.profile ∧ (imageOfEntry e)[3] = e.m ∧
      (imageOfEntry e)[4] = e.every ∧ (imageOfEntry e)[5] = e.phase := by
  cases h : e.window with
  | none => rw [imageOfEntry_none h]; exact ⟨rfl, rfl, rfl, rfl, rfl, rfl⟩
  | some w => rw [imageOfEntry_some h]; exact ⟨rfl, rfl, rfl, rfl, rfl, rfl⟩

theorem entryOfImage_imageOfEntry (e : ScanEntry) : entryOfImage (imageOfEntry e) = e := by
  obtain ⟨b0, b1, b2, b3, b4, b5⟩ := imageOfEntry_head e
  obtain ⟨f0, f1, f2⟩ := entryFlags_getLsbD e
  unfold entryOfImage
  rw [b0, b1, b2, b3, b4, b5, f0, f1, f2]
  cases h : e.window with
  | none => cases e; cases h; rfl
  | some w =>
    rw [imageOfEntry_some h]
    have low := le24_of_bitVec w.low
    have high := le24_of_bitVec w.high
    have hysteresis := le16_of_bitVec w.hysteresis
    cases e
    cases h
    simp [low, high, hysteresis]

/-! ### The profile image -/

theorem Profile.legal_iff (p : Profile) :
    p.legal = true ↔ p.settle ≤ 15 ∧ (1 ≤ p.cycles ∧ p.cycles ≤ 256) ∧
      (1 ≤ p.gate ∧ p.gate ≤ 1000) ∧ (1 ≤ p.precharge ∧ p.precharge ≤ 65535) ∧
      (1 ≤ p.stallLimit ∧ p.stallLimit ≤ 65535) ∧ p.lifetime ≤ 65535 ∧
      (1 ≤ p.useLimit ∧ p.useLimit ≤ 255) := by
  simp only [Profile.legal, Bool.and_eq_true, decide_eq_true_eq, and_assoc]

theorem methodOfByte_code (m : Method) : methodOfByte m.code = some m := by cases m <;> rfl

theorem methodCode_le (m : Method) : m.code.toNat ≤ 2 := by cases m <;> decide

theorem flagByte_toNat (b : Bool) : (flagByte b).toNat = if b then 1 else 0 := by cases b <;> rfl

/-- The image of a profile in range gives back its numbers, field by field. -/
theorem profileNumber_imageOfProfile {p : Profile} (h : p.legal = true) :
    profileNumber (imageOfProfile p) 1 = p.method.code.toNat ∧
    profileNumber (imageOfProfile p) 2 = p.settle ∧
    profileNumber (imageOfProfile p) 3 = p.cycles ∧
    profileNumber (imageOfProfile p) 4 = p.gate ∧
    profileNumber (imageOfProfile p) 5 = p.precharge ∧
    profileNumber (imageOfProfile p) 6 = p.stallLimit ∧
    profileNumber (imageOfProfile p) 7 = p.lifetime ∧
    profileNumber (imageOfProfile p) 8 = p.useLimit ∧
    profileNumber (imageOfProfile p) 9 = if p.reportReferences then 1 else 0 := by
  obtain ⟨settle, ⟨-, cycles⟩, ⟨-, gate⟩, ⟨-, precharge⟩, ⟨-, stall⟩, lifetime, -, uses⟩ :=
    p.legal_iff.mp h
  exact ⟨rfl, one_byte (by omega), le16_byteOf (by omega), le16_byteOf (by omega),
    le16_byteOf (by omega), le16_byteOf (by omega), le16_byteOf (by omega), one_byte (by omega),
    flagByte_toNat _⟩

theorem profileFault_eq_none_iff (img : Vector Byte 15) :
    profileFault img = none ↔ ∀ n, 1 ≤ n → n ≤ 9 → profileFieldInRange img n = true := by
  have listed : ∀ n, n ∈ [1, 2, 3, 4, 5, 6, 7, 8, 9] ↔ 1 ≤ n ∧ n ≤ 9 := by
    intro n
    simp only [List.mem_cons, List.not_mem_nil, or_false]
    omega
  rw [profileFault, List.find?_eq_none]
  simp only [listed, and_imp, Bool.not_eq_true, Bool.not_eq_false']

theorem profileFault_imageOfProfile {p : Profile} (h : p.legal = true) :
    profileFault (imageOfProfile p) = none := by
  obtain ⟨n1, n2, n3, n4, n5, n6, n7, n8, n9⟩ := profileNumber_imageOfProfile h
  obtain ⟨settle, cycles, gate, precharge, stall, -, uses⟩ := p.legal_iff.mp h
  have report : (if p.reportReferences then 1 else 0) ≤ 1 := by split <;> decide
  rw [profileFault_eq_none_iff]
  intro n first last
  unfold profileFieldInRange
  interval_cases n
  · exact decide_eq_true (n1.symm ▸ methodCode_le _)
  · exact decide_eq_true (n2.symm ▸ settle)
  · exact decide_eq_true (n3.symm ▸ cycles)
  · exact decide_eq_true (n4.symm ▸ gate)
  · exact decide_eq_true (n5.symm ▸ precharge.1)
  · exact decide_eq_true (n6.symm ▸ stall.1)
  · rfl
  · exact decide_eq_true (n8.symm ▸ uses.1)
  · exact decide_eq_true (n9.symm ▸ report)

theorem profileOfImage_imageOfProfile {p : Profile} (h : p.legal = true) :
    profileOfImage (imageOfProfile p) p.generation = p := by
  obtain ⟨-, n2, n3, n4, n5, n6, n7, n8, n9⟩ := profileNumber_imageOfProfile h
  have method : (methodOfByte (imageOfProfile p)[0]).getD .period = p.method := by
    rw [show (imageOfProfile p)[0] = p.method.code from rfl, methodOfByte_code]
    rfl
  have report : decide ((if p.reportReferences then 1 else 0) = 1) = p.reportReferences := by
    cases p.reportReferences <;> rfl
  unfold profileOfImage
  rw [method, n2, n3, n4, n5, n6, n7, n8, n9, report]

theorem methodOfByte_cases (b : Byte) :
    (b.toNat = 0 → (methodOfByte b).getD .period = .count) ∧
    (b.toNat = 1 → (methodOfByte b).getD .period = .period) ∧
    (b.toNat = 2 → (methodOfByte b).getD .period = .slope) := by
  have of_toNat : ∀ {n : Byte}, b.toNat = n.toNat → b = n := BitVec.eq_of_toNat_eq
  refine ⟨fun h => ?_, fun h => ?_, fun h => ?_⟩
  · rw [of_toNat (n := 0) h]; rfl
  · rw [of_toNat (n := 1) h]; rfl
  · rw [of_toNat (n := 2) h]; rfl

/-- Settles O32: the round trips and the layouts, by the numbers of two and three bytes. -/
theorem imagesKeepEveryField : Obligations.ImagesKeepEveryField := by
  refine ⟨entryOfImage_imageOfEntry,
    fun p h => ⟨profileFault_imageOfProfile h, profileOfImage_imageOfProfile h⟩,
    fun e => ?_, fun b => ?_, fun p h => ?_, fun b g => ?_⟩
  · obtain ⟨b0, b1, b2, b3, b4, b5⟩ := imageOfEntry_head e
    refine ⟨(congrArg BitVec.toNat b0).trans (entryFlags_toNat e), b1, b2, b3, b4, b5,
      fun h k hk => ?_, fun w h => ?_⟩
    · have tail : ∀ k : Fin 15, 6 ≤ k.val → (#v[entryFlags e, e.channel, e.profile, e.m, e.every,
          e.phase, 0, 0, 0, 0, 0, 0, 0, 0, 0] : Vector Byte 15)[k] = 0 := by
        intro k hk
        obtain ⟨k, lt⟩ := k
        dsimp only at hk
        interval_cases k <;> rfl
      exact imageOfEntry_none h ▸ tail k hk
    · dsimp only
      simp only [imageOfEntry_some h]
      exact ⟨rfl, three_bytes w.low.isLt, three_bytes w.high.isLt, two_bytes w.hysteresis.isLt⟩
  · exact ⟨rfl, rfl, rfl, rfl, rfl, rfl, rfl, fun absent => if_neg (by rw [absent]; decide),
      fun present => ⟨_, if_pos present, rfl, le24_toNat _ _ _, le24_toNat _ _ _, le16_toNat _ _⟩⟩
  · obtain ⟨settle, ⟨-, cycles⟩, ⟨-, gate⟩, ⟨-, precharge⟩, ⟨-, stall⟩, lifetime, -, uses⟩ :=
      p.legal_iff.mp h
    refine ⟨?_, one_byte (by omega), two_bytes (by omega), two_bytes (by omega),
      two_bytes (by omega), two_bytes (by omega), two_bytes (by omega), one_byte (by omega),
      flagByte_toNat _, rfl⟩
    change p.method.code.toNat = _
    cases p.method <;> rfl
  · obtain ⟨count, period, slope⟩ := methodOfByte_cases b[0]
    exact ⟨count, period, slope, rfl, le16_toNat _ _, le16_toNat _ _, le16_toNat _ _,
      le16_toNat _ _, le16_toNat _ _, rfl, decide_eq_true_iff, rfl⟩

/-! ### PROFILE_WRITE and PROFILE_READ -/

theorem profileFault_first {img : Vector Byte 15} {n : Nat} (first : 1 ≤ n) (last : n ≤ 9)
    (before : ∀ k, 1 ≤ k → k < n → profileFieldInRange img k = true)
    (fails : profileFieldInRange img n = false) : profileFault img = some n := by
  unfold profileFault
  interval_cases n <;> simp [List.find?, fails, before]

theorem State.reference_invalidateProfile (s : State) (p : Fin 4) (c : CellId) (q : Fin 4) :
    (s.invalidateProfile p).reference c q =
      if q = p then ReferenceRecord.invalid else s.reference c q := by
  unfold State.invalidateProfile State.invalidate
  rw [State.reference_setReference, State.reference_setReference]
  cases c <;> by_cases h : q = p <;> simp [h]

theorem State.writeProfile_profile (s : State) (p q : Fin 4) :
    (s.writeProfile p).profile q = if q = p then
      profileOfImage s.profiles.image ((s.profile p).generation + 1) else s.profile q := by
  change (s.profiles.records.set p _)[q] = _
  by_cases h : q = p
  · rw [if_pos h, h]
    exact Vector.getElem_set_self _
  · rw [if_neg h]
    exact Vector.getElem_set_ne _ _ fun e => h (Fin.ext e.symm)

theorem State.writeProfile_job (s : State) (p : Fin 4) (c : CellId) :
    (s.writeProfile p).job c = (s.job c).map fun j =>
      if j.profile = p then { j with superseded := true } else j := by
  cases c <;> rfl

theorem State.writeProfile_opportunity (s : State) (p : Fin 4) (c : CellId) :
    (s.writeProfile p).opportunity c = s.opportunity c := by
  cases c <;> rfl

theorem profileWrite_of_fault {s : State} {p : Fin 4} {n : Nat}
    (h : profileOfByte (s.arg 0) = some p) (fault : profileFault s.profiles.image = some n) :
    profileWrite s = .refuse .badParameter (BitVec.ofNat 8 n) 0 0 0 s := by
  unfold profileWrite
  rw [h]
  dsimp only
  rw [fault]

theorem profileWrite_of_pass {s : State} {p : Fin 4}
    (h : profileOfByte (s.arg 0) = some p) (ok : profileFault s.profiles.image = none) :
    profileWrite s =
      .done (s.arg 0) ((s.profile p).generation + 1) 0 0 (s.writeProfile p) := by
  unfold profileWrite
  rw [h]
  dsimp only
  rw [ok]

/-- Settles O31: the profile's number first, then the first field of the image out of its range. -/
theorem profileCommandsTakeAndShow : Obligations.ProfileCommandsTakeAndShow := by
  refine ⟨fun s at_command => ?_, fun s at_command => ?_⟩
  · have answers : ∀ {st b0 b1 b2 b3 t}, profileWrite s = ⟨st, #v[b0, b1, b2, b3], t⟩ →
        exec .profileWrite s = .next (t.reported 0x38 st b0 b1 b2 b3) := fun h =>
      exec_of_reply (rule := profileWrite) rfl rfl at_command h
    refine ⟨fun outside => answers ?_, fun p named => ?_⟩
    · unfold profileWrite
      rw [profileOfByte_none outside]
      rfl
    have hp : profileOfByte (s.arg 0) = some p :=
      profileOfByte_of_toNat (toNat_ofNat_byte named (by omega))
    refine ⟨fun n first last before fails => answers ?_, fun pass => ?_⟩
    · rw [profileWrite_of_fault hp (profileFault_first first last before fails)]
      rfl
    · have ok := (profileFault_eq_none_iff _).mpr pass
      have profile := (s.writeProfile_profile p p).trans (if_pos rfl)
      refine ⟨_, answers (profileWrite_of_pass hp ok), profile, ?_,
        fun q other => (s.writeProfile_profile p q).trans (if_neg other), rfl,
        fun c => (State.reference_invalidateProfile _ p c p).trans (if_pos rfl),
        fun c q other => (State.reference_invalidateProfile _ p c q).trans (if_neg other),
        fun c => ⟨s.writeProfile_opportunity p c, s.writeProfile_job p c⟩, rfl⟩
      exact (congrArg Profile.legal profile).trans (profileOfImage_legal _ ok)
  · have answers : ∀ {st b0 b1 b2 b3 t}, profileRead s = ⟨st, #v[b0, b1, b2, b3], t⟩ →
        exec .profileRead s = .next (t.reported 0x39 st b0 b1 b2 b3) := fun h =>
      exec_of_reply (rule := profileRead) rfl rfl at_command h
    refine ⟨fun p named => answers ?_, fun outside => answers ?_⟩
    · unfold profileRead
      rw [profileOfByte_of_toNat (toNat_ofNat_byte named (by omega))]
      rfl
    · unfold profileRead
      rw [profileOfByte_none outside]
      rfl

end Sys2Proof.Machine
end

section
-- One declaration at a time: the stacks of parallel elaboration do not fit under the memory limit.
set_option Elab.async false
/-!
The registers of `SettingsKept` under every act on a cell, its job and its records; then
REQUEST_CANCEL (R89, R90, R112) and CELL_DISABLE (R6, R76, R113).
-/
namespace Sys2Proof.Machine

/-! ### What every act leaves -/

theorem Scan.eq_with {x y : Scan} (staging : x.staging = y.staging) (image : x.image = y.image)
    (cycle : x.cycle = y.cycle) (overrun : x.overrun = y.overrun) (source : x.source = y.source)
    (edge : x.edge = y.edge) :
    x = { y with
      active := x.active, state := x.state, single := x.single, commitPending := x.commitPending
      due := x.due, jobsInFlight := x.jobsInFlight } := by
  cases x; cases y; subst staging image cycle overrun source edge; rfl

theorem Results.eq_with {x y : ResultQueue} (watermark : x.watermark = y.watermark)
    (snapshot : x.snapshot = y.snapshot) (current : x.current = y.current) :
    x = { y with
      records := x.records, reserved := x.reserved, nextSequence := x.nextSequence } := by
  cases x; cases y; subst watermark snapshot current; rfl

theorem SettingsKept.of_eq {s t : State} (profiles : t.profiles = s.profiles)
    (channels : t.channels.threshold = s.channels.threshold) (scan : t.scan = s.scan)
    (requests : t.requests = s.requests) (results : t.results = s.results)
    (timebase : t.timebase = s.timebase) (trig : t.trig = s.trig)
    (enable : t.events.enable = s.events.enable) (port : t.port = s.port)
    (command : t.command = s.command) (held : t.resetHeld = s.resetHeld) : SettingsKept s t :=
  ⟨profiles, channels, by rw [scan], by rw [requests], by rw [results], timebase, trig, enable,
    port, command, held⟩

theorem SettingsKept.refl (s : State) : SettingsKept s s :=
  .of_eq rfl rfl rfl rfl rfl rfl rfl rfl rfl rfl rfl

theorem SettingsKept.trans {s t u : State} (h : SettingsKept s t) (h' : SettingsKept t u) :
    SettingsKept s u where
  profiles := h'.profiles.trans h.profiles
  threshold := h'.threshold.trans h.threshold
  scan := by rw [h'.scan, h.scan]
  requestImage := h'.requestImage.trans h.requestImage
  results := by rw [h'.results, h.results]
  timebase := h'.timebase.trans h.timebase
  trig := h'.trig.trans h.trig
  enable := h'.enable.trans h.enable
  port := h'.port.trans h.port
  command := h'.command.trans h.command
  resetHeld := h'.resetHeld.trans h.resetHeld

/-- The report of a command changes the port and the command unit alike in both states. -/
theorem SettingsKept.reported {s t : State} (h : SettingsKept s t) (code : Byte)
    (st : CommandStatus) (b0 b1 b2 b3 : Byte) :
    SettingsKept (s.reported code st b0 b1 b2 b3) (t.reported code st b0 b1 b2 b3) where
  profiles := h.profiles
  threshold := h.threshold
  scan := h.scan
  requestImage := h.requestImage
  results := h.results
  timebase := h.timebase
  trig := h.trig
  enable := h.enable
  port := congrArg (Port.complete code) h.port
  command := by rw [State.reported, State.reported, h.command]
  resetHeld := h.resetHeld

theorem SettingsKept.setCell (s : State) (c : CellId) (k : Cell) : SettingsKept s (s.setCell c k) :=
  .of_eq rfl rfl rfl rfl rfl rfl rfl rfl rfl rfl rfl

theorem SettingsKept.setJob (s : State) (c : CellId) (j : Option Job) :
    SettingsKept s (s.setJob c j) :=
  .of_eq rfl rfl rfl rfl rfl rfl rfl rfl rfl rfl rfl

theorem SettingsKept.setOpportunity (s : State) (c : CellId) (b : Bool) :
    SettingsKept s (s.setOpportunity c b) :=
  .of_eq rfl rfl rfl rfl rfl rfl rfl rfl rfl rfl rfl

theorem SettingsKept.updateHealth (s : State) (ch : Fin 10) (forced : Bool) (o : Outcome) :
    SettingsKept s (s.updateHealth ch forced o) := by
  constructor <;> simp

theorem SettingsKept.offerReference (s : State) (c : CellId) (j : Job) (o : Outcome) (n : Nat) :
    SettingsKept s (s.offerReference c j o n) := by
  constructor <;> simp

theorem SettingsKept.append (s : State) (r : Record) : SettingsKept s (s.append r) := by
  constructor <;> simp

theorem SettingsKept.release (s : State) : SettingsKept s s.release := by
  constructor <;> simp [State.release]

theorem SettingsKept.finishJob (s : State) (c : CellId) (j : Job) (r : Record) :
    SettingsKept s (s.finishJob c j r) where
  profiles := by simp
  threshold := by simp
  scan := Scan.eq_with (by simp) (by simp) (by simp) (by simp) (by simp) (by simp)
  requestImage := by simp
  results := Results.eq_with (by simp) (by simp) (by simp)
  timebase := by simp
  trig := by simp
  enable := by simp
  port := by simp
  command := by simp
  resetHeld := by simp

theorem SettingsKept.withdraw (s : State) (c : CellId) (w : Work) :
    SettingsKept s (s.withdraw c w) where
  profiles := by simp
  threshold := by simp
  scan := Scan.eq_with (by simp) (by simp) (by simp) (by simp) (by simp) (by simp)
  requestImage := by simp
  results := by simp
  timebase := by simp
  trig := by simp
  enable := by simp
  port := by simp
  command := by simp
  resetHeld := by simp

theorem SettingsKept.completionCheck (s : State) : SettingsKept s s.completionCheck where
  profiles := by simp
  threshold := by simp
  scan := Scan.eq_with (by simp) (by simp) (by simp) (by simp) (by simp) (by simp)
  requestImage := by simp
  results := by simp
  timebase := by simp
  trig := by simp
  enable := by simp
  port := by simp
  command := by simp
  resetHeld := by simp

theorem SettingsKept.claim (s : State) (c : CellId) (n : Nat) (w : Work) (j : Option Job) :
    SettingsKept s (((s.reserve n).withdraw c w).setJob c j) :=
  .trans (.trans (t := s.reserve n) (by constructor <;> simp [State.reserve])
    (.withdraw _ _ _)) (.setJob _ _ _)

theorem SettingsKept.spendUse (s : State) (c : CellId) (p : Fin 4) :
    SettingsKept s (s.spendUse c p) :=
  .of_eq rfl rfl rfl rfl rfl rfl rfl rfl rfl rfl rfl

/-- Nothing that moves a cell, its job or its records moves a register of `SettingsKept`. -/
theorem SettingsKept.acts (s : State) : KeptByActs (SettingsKept s) (fun _ => True) where
  moved _ _ _ _ _ h := h.trans (.setCell _ _ _)
  delivered _ _ _ _ _ _ h := ⟨h.trans (.setCell _ _ _), trivial⟩
  aborted _ _ h := h.trans (.setCell _ _ _)
  disabled _ _ h := h.trans (.setCell _ _ _)
  restEnded _ _ _ h := h.trans (.setCell _ _ _)
  ordered _ _ _ _ _ _ h := h.trans (.setCell _ _ _)
  opportunity _ _ _ h := h.trans (.setOpportunity _ _ _)
  health _ _ _ _ h := h.trans (.updateHealth _ _ _ _)
  offered _ _ _ _ _ _ _ h := h.trans (.offerReference _ _ _ _ _)
  reported _ _ _ _ _ _ _ h := h.trans (.append _ _)
  paired _ _ _ _ _ _ _ h := h.trans (.setJob _ _ _)
  completed _ _ _ _ _ _ _ h := h.trans (.finishJob _ _ _ _)
  ended _ _ _ _ _ _ h := h.trans (.finishJob _ _ _ _)
  released _ h := h.trans (.release _)
  claimed _ _ _ _ _ h := h.trans (.claim _ _ _ _ _)
  spent _ _ _ h := h.trans (.spendUse _ _ _)

/-! ### The abort of a job (R112, R113, R143) -/

/-- The slots that the abort of a job returns. -/
def Job.heldSlots (j : Job) : Nat := if j.slots = 2 then 2 else 1

theorem State.idleFree_of_job {s : State} {c : CellId} {j : Job} (h : s.job c = some j) :
    s.idleFree c = false := by
  simp [State.idleFree, h]

theorem State.idleFree_of_state {s : State} {c : CellId} (h : (s.cell c).state ≠ .idle) :
    s.idleFree c = false := by
  simp [State.idleFree, h]

theorem State.idleFree_congr {s t : State} {c : CellId} (cell : t.cell c = s.cell c)
    (job : t.job c = s.job c) : t.idleFree c = s.idleFree c := by
  unfold State.idleFree
  rw [cell, job]

theorem State.offerBoth_opportunity (s : State) (d : CellId) :
    s.offerBoth.opportunity d = (s.opportunity d || s.idleFree d) := by
  have idle : (s.offer .a).idleFree .b = s.idleFree .b :=
    State.idleFree_congr (by simp) (by simp)
  unfold State.offerBoth
  rw [State.offer_opportunity, State.offer_opportunity, idle]
  cases d <;> simp

theorem State.release_opportunity (s : State) (d : CellId) :
    s.release.opportunity d = (s.opportunity d || s.idleFree d) :=
  State.offerBoth_opportunity _ d

/-- An unused report reservation is released (R143). -/
def State.releaseReport (s : State) (j : Job) : State := if j.slots = 2 then s.release else s

theorem State.abortJob_eq (s : State) (c : CellId) (j : Job) (st : RecordStatus) :
    s.abortJob c j st =
      (s.releaseReport j).finishJob c j (j.endRecord st s.timebase.counter) := by
  unfold State.abortJob State.releaseReport
  split <;> simp

theorem State.abortJob_ends (s : State) (c : CellId) (j : Job) (st : RecordStatus) :
    JobEnds (s.releaseReport j) c j (j.endRecord st s.timebase.counter) (s.abortJob c j st) :=
  s.abortJob_eq c j st ▸ State.finishJob_ends _ c j _ rfl

theorem SettingsKept.abortJob {s : State} (c : CellId) {j : Job} (st : RecordStatus)
    (hj : s.job c = some j) : SettingsKept s (s.abortJob c j st) :=
  (SettingsKept.acts s).abortJob s c j st hj (.refl s)

theorem State.releaseReport_frame (s : State) (j : Job) :
    (s.releaseReport j).cells = s.cells ∧ (s.releaseReport j).channels = s.channels ∧
    (s.releaseReport j).scan = s.scan ∧ (s.releaseReport j).requests = s.requests ∧
    (s.releaseReport j).references = s.references ∧ (s.releaseReport j).windows = s.windows ∧
    (s.releaseReport j).timer = s.timer ∧ (s.releaseReport j).events = s.events ∧
    (s.releaseReport j).results.records = s.results.records ∧
    (s.releaseReport j).results.nextSequence = s.results.nextSequence := by
  unfold State.releaseReport
  split <;> simp

theorem State.releaseReport_job (s : State) (j : Job) (c : CellId) :
    (s.releaseReport j).job c = s.job c := by
  unfold State.releaseReport
  split <;> simp

theorem State.releaseReport_reserved (s : State) (j : Job) :
    (s.releaseReport j).results.reserved - 1 = s.results.reserved - j.heldSlots := by
  unfold State.releaseReport Job.heldSlots State.release
  split
  · simp
    omega
  · rfl

theorem State.releaseReport_opportunity (s : State) (j : Job) (c : CellId) :
    (s.releaseReport j).opportunity c =
      (s.opportunity c || (decide (j.slots = 2) && s.idleFree c)) := by
  unfold State.releaseReport
  split
  · rename_i h
    rw [State.release_opportunity]
    simp [h]
  · rename_i h
    simp [h]

/-! ### REQUEST_CANCEL -/

/-- The slots of a cell's request job with the tag. -/
def State.slotsOfTag (s : State) (tag : Byte) (c : CellId) : Nat :=
  match s.job c with
  | none => 0
  | some j => if s.holdsTag tag c then j.heldSlots else 0

/-- A record of a cancelled request job (R110, R112). -/
structure IsCancelled (tag : Byte) (now : BitVec 32) (r : Record) : Prop where
  status : r.status = .cancelled
  kind : r.kind = .request
  sourceId : r.sourceId = tag
  samples : r.samples = 0
  raw : r.raw = none
  ratio : r.ratio = none
  cycle : r.cycle = none
  transition : r.transition = none
  stallLevel : r.stallLevel = none
  timestamp : r.timestamp = now

/-- What the cancellation does with one cell: nothing without a request job of the tag, and with one
the abort of its order and of the job. -/
structure CancelsJob (tag : Byte) (c : CellId) (s t : State) : Prop where
  settings : SettingsKept s t
  channels : t.channels = s.channels
  requests : t.requests = s.requests
  references : t.references = s.references
  scan : t.scan = s.scan
  windows : t.windows = s.windows
  timer : t.timer = s.timer
  otherCell : t.cell c.other = s.cell c.other
  otherJob : t.job c.other = s.job c.other
  spared : s.holdsTag tag c = false → t = s
  cell : s.holdsTag tag c = true → t.cell c = (s.cell c).abort
  job : s.holdsTag tag c = true → t.job c = none
  opportunity : t.opportunity c.other = (s.opportunity c.other || (s.holdsTag tag c &&
    (s.job c).any (fun j => decide (j.slots = 2)) && s.idleFree c.other))
  number : t.results.nextSequence =
    s.results.nextSequence + BitVec.ofNat 16 (s.holdsTag tag c).toNat
  reserved : t.results.reserved = s.results.reserved - s.slotsOfTag tag c
  records : ∃ new, t.results.records = s.results.records ++ new ∧
    new.length = (s.holdsTag tag c).toNat ∧
    (∀ r ∈ new, IsCancelled tag s.timebase.counter r ∧ r.sequence = s.results.nextSequence) ∧
    ∀ j, s.job c = some j → s.holdsTag tag c = true →
      ∃ r ∈ new, r.channel = j.channel ∧ r.profile = j.profile ∧ r.refreshed = j.refreshed
  events : t.events = (if s.holdsTag tag c then s.raise .requestDone else s).events

theorem State.holdsTag_some {s : State} {c : CellId} {j : Job} (h : s.job c = some j)
    (tag : Byte) : s.holdsTag tag c = decide (j.origin = .request tag) := by
  unfold State.holdsTag
  rw [h]

theorem State.holdsTag_eq (s : State) (tag : Byte) (c : CellId) :
    s.holdsTag tag c = (s.job c).any fun j => decide (j.origin = .request tag) := by
  unfold State.holdsTag
  cases s.job c <;> rfl

theorem State.holdsTag_congr {s t : State} {c : CellId} (h : t.job c = s.job c) (tag : Byte) :
    t.holdsTag tag c = s.holdsTag tag c := by
  rw [State.holdsTag_eq, State.holdsTag_eq, h]

theorem State.slotsOfTag_congr {s t : State} {c : CellId} (h : t.job c = s.job c) (tag : Byte) :
    t.slotsOfTag tag c = s.slotsOfTag tag c := by
  unfold State.slotsOfTag
  rw [State.holdsTag_congr h, h]

theorem CancelsJob.of_spared {s : State} {tag : Byte} {c : CellId}
    (h : s.holdsTag tag c = false) : CancelsJob tag c s s where
  settings := .refl s
  channels := rfl
  requests := rfl
  references := rfl
  scan := rfl
  windows := rfl
  timer := rfl
  otherCell := rfl
  otherJob := rfl
  spared _ := rfl
  cell h' := absurd (h.symm.trans h') nofun
  job h' := absurd (h.symm.trans h') nofun
  opportunity := by simp [h]
  number := by simp [h]
  reserved := by
    unfold State.slotsOfTag
    cases s.job c <;> simp [h]
  records := ⟨[], by simp, by simp [h], by simp, fun _ _ h' => absurd (h.symm.trans h') nofun⟩
  events := by simp [h]

theorem State.cancelJob_of_held {s : State} {tag : Byte} {c : CellId} {j : Job}
    (hj : s.job c = some j) (ho : j.origin = .request tag) :
    s.cancelJob tag c = (s.setCell c (s.cell c).abort).abortJob c j .cancelled := by
  unfold State.cancelJob
  rw [hj]
  exact if_pos ho

theorem CancelsJob.of_held {s : State} {tag : Byte} {c : CellId} {j : Job}
    (hj : s.job c = some j) (ho : j.origin = .request tag) :
    CancelsJob tag c s (s.cancelJob tag c) := by
  have held : s.holdsTag tag c = true := by simp [State.holdsTag_some hj, ho]
  rw [State.cancelJob_of_held hj ho]
  have hj' : (s.setCell c (s.cell c).abort).job c = some j := by simpa using hj
  have ends := State.abortJob_ends (s.setCell c (s.cell c).abort) c j .cancelled
  obtain ⟨records, scan, timer, windows, events⟩ := ends.request tag ho
  obtain ⟨cells, channels, fscan, requests, references, fwindows, ftimer, fevents, frecords,
    fnumber⟩ := State.releaseReport_frame (s.setCell c (s.cell c).abort) j
  have job := State.releaseReport_job (s.setCell c (s.cell c).abort) j
  have cell := State.cell_eq_of_cells (t := (s.setCell c (s.cell c).abort).abortJob c j .cancelled)
    (s := s.setCell c (s.cell c).abort) (by rw [State.abortJob_eq]; simpa using cells)
  exact {
    settings := .trans (.setCell _ _ _) (.abortJob c .cancelled hj')
    channels := by rw [State.abortJob_eq]; simpa using channels
    requests := by rw [State.abortJob_eq]; simpa using requests
    references := by rw [State.abortJob_eq]; simpa using references
    scan := scan.trans fscan
    windows := windows.trans fwindows
    timer := timer.trans ftimer
    otherCell := (cell c.other).trans (by simp)
    otherJob := ends.otherJob.trans ((job c.other).trans (by simp))
    spared := fun h => absurd (held.symm.trans h) nofun
    cell := fun _ => (cell c).trans (by simp)
    job := fun _ => ends.job
    opportunity := by
      have idle : (s.setCell c (s.cell c).abort).idleFree c.other = s.idleFree c.other :=
        State.idleFree_congr (by simp) (by simp)
      rw [State.abortJob_eq, State.finishJob_reads_opportunity, State.releaseReport_opportunity,
        idle, held, hj]
      simp
    number := by
      rw [ends.number, fnumber, held]
      rfl
    reserved := by
      rw [ends.slot, State.releaseReport_reserved]
      unfold State.slotsOfTag
      rw [hj]
      simp [held]
    records := by
      refine ⟨_, records.trans (by rw [frecords]; rfl), by rw [held]; rfl, ?_, ?_⟩
      · intro r hr
        obtain rfl := List.mem_singleton.mp hr
        exact ⟨⟨rfl, by simp [Job.endRecord, ho, Origin.kind],
          by simp [Job.endRecord, ho, Origin.sourceId], rfl, rfl, rfl,
          by simp [Job.endRecord, ho, Origin.cycle], rfl, rfl, by simp [Job.endRecord]⟩,
          by rw [fnumber]; rfl⟩
      · intro j' hj' _
        obtain rfl := Option.some.inj (hj.symm.trans hj')
        exact ⟨_, List.mem_singleton_self _, rfl, rfl, rfl⟩
    events := by
      rw [events, held]
      simp [State.raise, fevents] }

theorem State.cancelJob_cancels (s : State) (tag : Byte) (c : CellId) :
    CancelsJob tag c s (s.cancelJob tag c) := by
  cases hj : s.job c with
  | none =>
    have spared : s.holdsTag tag c = false := by simp [State.holdsTag_eq, hj]
    have same : s.cancelJob tag c = s := by simp [State.cancelJob, hj]
    rw [same]
    exact .of_spared spared
  | some j =>
    by_cases ho : j.origin = .request tag
    · exact .of_held hj ho
    · have spared : s.holdsTag tag c = false := by simp [State.holdsTag_eq, hj, ho]
      have same : s.cancelJob tag c = s := by simp [State.cancelJob, hj, ho]
      rw [same]
      exact .of_spared spared

theorem State.cancelJobs_order (s : State) (tag : Byte) :
    ∃ (d : CellId) (n : Nat),
      s.cancelJobs tag = (({ s with freeIndex := n } : State).cancelJob tag d).cancelJob tag d.other := by
  unfold State.cancelJobs
  split
  · exact ⟨_, _, rfl⟩
  · exact ⟨.a, s.freeIndex, rfl⟩

/-- The number of cells with a request job of the tag. -/
theorem State.countTags (s : State) (tag : Byte) (d : CellId) :
    [CellId.a, CellId.b].countP (s.holdsTag tag) =
      (s.holdsTag tag d).toNat + (s.holdsTag tag d.other).toNat := by
  have count : ∀ x y : Bool, (if x then 1 else 0) + (if y then 1 else 0) = x.toNat + y.toNat := by
    decide
  rw [List.countP_cons, List.countP_cons, List.countP_nil, Nat.zero_add]
  cases d
  · rw [Nat.add_comm]; exact count _ _
  · exact count _ _

/-- The numbers of the records appended for two cells follow one another. -/
theorem sequences_follow {n : BitVec 16} {x y : Bool} {new₁ new₂ : List Record}
    (l₁ : new₁.length = x.toNat) (l₂ : new₂.length = y.toNat)
    (h₁ : ∀ r ∈ new₁, r.sequence = n) (h₂ : ∀ r ∈ new₂, r.sequence = n + BitVec.ofNat 16 x.toNat)
    (k : Nat) (h : k < (new₁ ++ new₂).length) :
    ((new₁ ++ new₂)[k]).sequence = n + BitVec.ofNat 16 k := by
  have bx := x.toNat_le
  have by' := y.toNat_le
  rw [List.length_append] at h
  by_cases hk : k < new₁.length
  · obtain rfl : k = 0 := by omega
    rw [List.getElem_append_left hk, h₁ _ (List.getElem_mem hk)]
    exact (BitVec.add_zero n).symm
  · obtain rfl : k = x.toNat := by omega
    rw [List.getElem_append_right (Nat.le_of_not_lt hk)]
    exact h₂ _ (List.getElem_mem _)

/-- The two cells, one after the other. -/
structure CancelsBoth (tag : Byte) (s t : State) : Prop where
  settings : SettingsKept s t
  channels : t.channels = s.channels
  requests : t.requests = s.requests
  references : t.references = s.references
  scan : t.scan = s.scan
  windows : t.windows = s.windows
  timer : t.timer = s.timer
  spared : ∀ c, s.holdsTag tag c = false → t.cell c = s.cell c ∧ t.job c = s.job c
  ended : ∀ c, s.holdsTag tag c = true → t.cell c = (s.cell c).abort ∧ t.job c = none
  opportunity : ∀ c, s.holdsTag tag c = false → t.opportunity c = (s.opportunity c ||
    (s.holdsTag tag c.other && (s.job c.other).any (fun j => decide (j.slots = 2)) &&
      s.idleFree c))
  number : t.results.nextSequence =
    s.results.nextSequence + BitVec.ofNat 16 ([CellId.a, CellId.b].countP (s.holdsTag tag))
  reserved : t.results.reserved =
    s.results.reserved - (s.slotsOfTag tag .a + s.slotsOfTag tag .b)
  records : ∃ new, t.results.records = s.results.records ++ new ∧
    new.length = [CellId.a, CellId.b].countP (s.holdsTag tag) ∧
    (∀ k (h : k < new.length),
      (new[k]).sequence = s.results.nextSequence + BitVec.ofNat 16 k) ∧
    (∀ r ∈ new, IsCancelled tag s.timebase.counter r) ∧
    ∀ c j, s.job c = some j → s.holdsTag tag c = true →
      ∃ r ∈ new, r.channel = j.channel ∧ r.profile = j.profile ∧ r.refreshed = j.refreshed
  events : t.events =
    (if [CellId.a, CellId.b].countP (s.holdsTag tag) = 0 then s else s.raise .requestDone).events

/-- The second cell is as the first one's cancellation left it: untouched. -/
theorem CancelsJob.both {tag : Byte} {d : CellId} {s t u : State} (first : CancelsJob tag d s t)
    (second : CancelsJob tag d.other t u) : CancelsBoth tag s u := by
  have held : t.holdsTag tag d.other = s.holdsTag tag d.other :=
    State.holdsTag_congr first.otherJob tag
  have back : d.other.other = d := CellId.other_other d
  have total := s.countTags tag d
  exact {
    settings := first.settings.trans second.settings
    channels := second.channels.trans first.channels
    requests := second.requests.trans first.requests
    references := second.references.trans first.references
    scan := second.scan.trans first.scan
    windows := second.windows.trans first.windows
    timer := second.timer.trans first.timer
    spared := by
      intro c hc
      obtain rfl | rfl := CellId.eq_or_other d c
      · have same := first.spared hc
        have cell := second.otherCell
        have job := second.otherJob
        rw [back, same] at cell job
        exact ⟨cell, job⟩
      · rw [second.spared (held.trans hc)]
        exact ⟨first.otherCell, first.otherJob⟩
    ended := by
      intro c hc
      obtain rfl | rfl := CellId.eq_or_other d c
      · have cell := second.otherCell
        have job := second.otherJob
        rw [back] at cell job
        exact ⟨cell.trans (first.cell hc), job.trans (first.job hc)⟩
      · have hc' := held.trans hc
        exact ⟨(second.cell hc').trans (by rw [first.otherCell]), second.job hc'⟩
    opportunity := by
      intro c hc
      obtain rfl | rfl := CellId.eq_or_other d c
      · have h := second.opportunity
        rw [back, first.spared hc] at h
        exact h
      · rw [second.spared (held.trans hc), first.opportunity, back]
    number := by
      rw [second.number, first.number, held, total, BitVec.add_assoc, ← BitVec.ofNat_add]
    reserved := by
      rw [second.reserved, first.reserved, State.slotsOfTag_congr first.otherJob, Nat.sub_sub]
      cases d
      · rfl
      · exact congrArg _ (Nat.add_comm _ _)
    records := by
      obtain ⟨new₁, e₁, l₁, all₁, own₁⟩ := first.records
      obtain ⟨new₂, e₂, l₂, all₂, own₂⟩ := second.records
      rw [held] at l₂
      rw [first.number, first.settings.timebase] at all₂
      refine ⟨new₁ ++ new₂, by rw [e₂, e₁, List.append_assoc],
        by rw [List.length_append, l₁, l₂, total],
        sequences_follow l₁ l₂ (fun r hr => (all₁ r hr).2) (fun r hr => (all₂ r hr).2), ?_, ?_⟩
      · intro r hr
        obtain hr | hr := List.mem_append.mp hr
        · exact (all₁ r hr).1
        · exact (all₂ r hr).1
      · intro c j hj hc
        obtain rfl | rfl := CellId.eq_or_other d c
        · obtain ⟨r, hr, fields⟩ := own₁ j hj hc
          exact ⟨r, List.mem_append_left _ hr, fields⟩
        · obtain ⟨r, hr, fields⟩ := own₂ j (first.otherJob.trans hj) (held.trans hc)
          exact ⟨r, List.mem_append_right _ hr, fields⟩
    events := by
      have again : ∀ x : State, x.events = (s.raise .requestDone).events →
          (x.raise .requestDone).events = (s.raise .requestDone).events := by
        intro x hx
        simp only [State.raise] at hx ⊢
        simp [hx, BitVec.or_assoc]
      rw [second.events, held, total]
      have he := first.events
      cases h₁ : s.holdsTag tag d <;> cases h₂ : s.holdsTag tag d.other <;> rw [h₁] at he
      · exact he
      · exact congrArg (fun e : EventUnit => { e with flags := e.flags ||| LatchedEvent.mask .requestDone }) he
      · exact he
      · exact again t he }

/-- Neither cancellation reads the free value of the order. -/
theorem CancelsBoth.of_freeIndex {tag : Byte} {s t : State} {n : Nat}
    (h : CancelsBoth tag { s with freeIndex := n } t) : CancelsBoth tag s t :=
  { h with
    settings := .trans (t := { s with freeIndex := n }) (.of_eq rfl rfl rfl rfl rfl rfl rfl rfl rfl rfl rfl) h.settings
    events := by
      have events := h.events
      split at events <;> rename_i none
      · exact events.trans (if_pos none ▸ rfl)
      · exact events.trans (if_neg none ▸ rfl) }

theorem State.cancelJobs_both (s : State) (tag : Byte) :
    CancelsBoth tag s (s.cancelJobs tag) := by
  obtain ⟨d, n, order⟩ := s.cancelJobs_order tag
  rw [order]
  exact .of_freeIndex ((State.cancelJob_cancels _ tag d).both (State.cancelJob_cancels _ tag d.other))

/-- Settles O35: the queue is filtered, then each cell's cancellation is `CancelsJob`; the free value
of the order of two records (log 17) is the cell that comes first. -/
theorem requestCancelReachesQueueAndJobs : Obligations.RequestCancelReachesQueueAndJobs := by
  intro s at_command tag kept reached number held
  have tags : reached = s.holdsTag tag := funext fun c => (s.holdsTag_eq tag c).symm
  have slots : ∀ c, held c = s.slotsOfTag tag c := by
    intro c
    dsimp only [held]
    rw [tags]
    rfl
  have both :=
    ({ s with requests := { s.requests with queue := kept } } : State).cancelJobs_both tag
  have counted : number = [CellId.a, CellId.b].countP (s.holdsTag tag) := by rw [← tags]
  have answer : ∀ {b0 b1 b2 b3 t}, requestCancel s = ⟨.done, #v[b0, b1, b2, b3], t⟩ →
      exec .requestCancel s = .next (t.reported 0x41 .done b0 b1 b2 b3) := fun h =>
    exec_of_reply (rule := requestCancel) rfl rfl at_command h
  refine ⟨_, answer (b1 := BitVec.ofNat 8 number) (by rw [counted]; rfl), both.requests, ?_,
    both.channels, both.references, both.scan, both.windows, both.timer, fun c spared => ?_,
    fun c reached => ⟨?_, fun converting => ?_, fun resting => ?_⟩, fun c spared => ?_, ?_, ?_, ?_, ?_⟩
  · have filtered : SettingsKept s { s with requests := { s.requests with queue := kept } } :=
      ⟨rfl, rfl, rfl, rfl, rfl, rfl, rfl, rfl, rfl, rfl, rfl⟩
    exact (filtered.trans both.settings).reported _ _ _ _ _ _
  · exact both.spared c (tags ▸ spared)
  · exact (both.ended c (tags ▸ reached)).2
  · exact (both.ended c (tags ▸ reached)).1.trans (if_pos converting)
  · exact (both.ended c (tags ▸ reached)).1.trans (if_neg (Bool.eq_false_iff.mp resting))
  · rw [tags]
    exact both.opportunity c (tags ▸ spared)
  · rw [counted]
    exact both.number
  · rw [slots, slots]
    exact both.reserved
  · obtain ⟨new, appended, length, sequence, all, own⟩ := both.records
    refine ⟨new, appended, length.trans counted.symm, sequence, fun r hr => ?_, fun c j hj hc =>
      own c j hj (tags ▸ hc)⟩
    obtain ⟨status, kind, sourceId, samples, raw, ratio, cycle, transition, stall, timestamp⟩ :=
      all r hr
    exact ⟨status, kind, sourceId, samples, raw, ratio, cycle, transition, stall, timestamp⟩
  · rw [counted]
    have events := both.events
    split at events <;> rename_i none
    · exact events.trans (if_pos none ▸ rfl)
    · exact events.trans (if_neg none ▸ rfl)

end Sys2Proof.Machine
end

section
-- One declaration at a time: the stacks of parallel elaboration do not fit under the memory limit.
set_option Elab.async false
/-!
CELL_DISABLE (R6, R76, R113, R129).
-/
namespace Sys2Proof.Machine

/-- After a completion check a second one finds nothing to do (R74, R75). -/
theorem CompletionChecked.settled {u v : State} (h : CompletionChecked u v) :
    v.completionCheck = v := by
  have done : v.scan.state = .waiting ∨ v.scan.state = .stopped → v.completionCheck = v := by
    rintro (hv | hv) <;> simp [State.completionCheck, hv]
  cases state : u.scan.state with
  | stopped =>
    have scan := (h.waits (.inl state)).1
    exact done (.inr (by rw [scan, state]))
  | waiting =>
    have scan := (h.waits (.inr (.inl state))).1
    exact done (.inl (by rw [scan, state]))
  | cycle =>
    by_cases none : u.scan.jobsInFlight = 0
    · by_cases empty : u.scan.due = []
      · cases single : u.scan.single with
        | false => exact done (.inl (by rw [(h.completes state empty none single).1]))
        | true => exact done (.inr (by rw [(h.completesOnce state empty none single).scan]))
      · have scan := (h.waits (.inr (.inr (.inr ⟨state, empty⟩)))).1
        simp [State.completionCheck, scan, state, empty]
    · have scan := (h.waits (.inr (.inr (.inl none)))).1
      simp [State.completionCheck, scan, state, none]
  | stopping =>
    by_cases none : u.scan.jobsInFlight = 0
    · exact done (.inr (by rw [(h.stops state none).scan]))
    · have scan := (h.waits (.inr (.inr (.inl none)))).1
      simp [State.completionCheck, scan, state, none]

theorem State.completionCheck_congr {s t : State} (scan : t.scan = s.scan)
    (timer : t.timer = s.timer) (windows : t.windows = s.windows) (events : t.events = s.events) :
    CompletionChecked s t.completionCheck :=
  t.completionCheck_checked.from_eq scan.symm timer.symm windows.symm events.symm

/-- A second check, of a state with the same scan sequencer, leaves the outcome of the first. -/
theorem CompletionChecked.again {u v t : State} (h : CompletionChecked u v)
    (scan : t.scan = v.scan) (timer : t.timer = v.timer) (windows : t.windows = v.windows)
    (events : t.events = v.events) : CompletionChecked u t.completionCheck := by
  have ht := h.congr scan timer windows events
  rw [ht.settled]
  exact ht

/-- The window monitor reads the active table and the windows alone. -/
theorem State.monitor_congr {s t : State} (active : t.scan.active = s.scan.active)
    (windows : t.windows = s.windows) (i : Fin 16) (r : Record) :
    (t.monitor i r).1 = (s.monitor i r).1 ∧
      (t.monitor i r).2.windows = (s.monitor i r).2.windows := by
  unfold State.monitor
  rw [active, windows]
  split
  · exact ⟨rfl, windows⟩
  · exact ⟨rfl, rfl⟩

/-! ### The cell that goes DOWN -/

/-- The cell is DOWN without an opportunity, and its due entries are gone; its job still stands. -/
def State.downed (s : State) (c : CellId) : State :=
  ((s.setCell c (s.cell c).disable).setOpportunity c false).removeDue c

theorem State.downed_scan (s : State) (c : CellId) :
    (s.downed c).scan = { s.scan with
      due := s.scan.due.filter fun i =>
        match (s.scan.active[i]).parameters with
        | some (ch, _, _) => decide (cellOf ch ≠ c)
        | none => true } := rfl

theorem State.downed_frame (s : State) (c : CellId) :
    (s.downed c).channels = s.channels ∧ (s.downed c).requests = s.requests ∧
    (s.downed c).references = s.references ∧ (s.downed c).results = s.results ∧
    (s.downed c).windows = s.windows ∧ (s.downed c).timer = s.timer ∧
    (s.downed c).events = s.events ∧ (s.downed c).timebase = s.timebase :=
  ⟨rfl, rfl, rfl, rfl, rfl, rfl, rfl, rfl⟩

theorem State.downed_cell (s : State) (c : CellId) :
    (s.downed c).cell c = Cell.reset (s.cell c).level ∧
      (s.downed c).cell c.other = s.cell c.other := by
  constructor <;> simp [State.downed, Cell.disable]

theorem State.downed_job (s : State) (c d : CellId) : (s.downed c).job d = s.job d := by
  simp [State.downed]

theorem State.downed_opportunity (s : State) (c : CellId) :
    (s.downed c).opportunity c = false ∧
      (s.downed c).opportunity c.other = s.opportunity c.other := by
  constructor <;> simp [State.downed, State.opportunity_setOpportunity]

theorem State.downed_idleFree (s : State) (c : CellId) :
    (s.downed c).idleFree c = false ∧ (s.downed c).idleFree c.other = s.idleFree c.other :=
  ⟨State.idleFree_of_state (by rw [(s.downed_cell c).1]; exact nofun),
    State.idleFree_congr (s.downed_cell c).2 (s.downed_job c c.other)⟩

theorem SettingsKept.downed (s : State) (c : CellId) : SettingsKept s (s.downed c) :=
  ⟨rfl, rfl, rfl, rfl, rfl, rfl, rfl, rfl, rfl, rfl, rfl⟩

theorem State.disableCell_free {s : State} {c : CellId} (h : s.job c = none) :
    s.disableCell c = ((s.downed c).invalidateCell c).completionCheck := by
  have h' := (s.downed_job c c).trans h
  unfold State.downed at h'
  unfold State.disableCell State.downed
  dsimp only
  rw [h']

theorem State.disableCell_owned {s : State} {c : CellId} {j : Job} (h : s.job c = some j) :
    s.disableCell c =
      (((s.downed c).abortJob c j .aborted).invalidateCell c).completionCheck := by
  have h' := (s.downed_job c c).trans h
  unfold State.downed at h'
  unfold State.disableCell State.downed
  dsimp only
  rw [h']

/-- What CELL_DISABLE leaves whether or not the cell has a job. -/
structure CellDisabled (s : State) (c : CellId) (t : State) : Prop where
  settings : SettingsKept s t
  cell : t.cell c = Cell.reset (s.cell c).level
  otherCell : t.cell c.other = s.cell c.other
  job : t.job c = none
  otherJob : t.job c.other = s.job c.other
  references : ∀ p, t.reference c p = ReferenceRecord.invalid
  otherReferences : ∀ p, t.reference c.other p = s.reference c.other p
  due : t.scan.due = (s.downed c).scan.due
  opportunity : t.opportunity c = false
  channels : t.channels = s.channels
  requests : t.requests = s.requests

/-- From a state in which the job of the cell has ended, by the invalidation and the last check. -/
theorem CellDisabled.of_ended {s v : State} {c : CellId} (settings : SettingsKept s v)
    (cells : v.cells = (s.downed c).cells) (job : v.job c = none)
    (otherJob : v.job c.other = s.job c.other) (references : v.references = s.references)
    (due : v.scan.due = (s.downed c).scan.due) (opportunity : v.opportunity c = false)
    (channels : v.channels = s.channels) (requests : v.requests = s.requests) :
    CellDisabled s c (v.invalidateCell c).completionCheck where
  settings := settings.trans (.trans (t := v.invalidateCell c)
    (.of_eq rfl rfl rfl rfl rfl rfl rfl rfl rfl rfl rfl) (.completionCheck (v.invalidateCell c)))
  cell := (State.cell_eq_of_cells (s := s.downed c) (by simpa using cells) c).trans
    (s.downed_cell c).1
  otherCell := (State.cell_eq_of_cells (s := s.downed c) (by simpa using cells) c.other).trans
    (s.downed_cell c).2
  job := by simpa using job
  otherJob := by simpa using otherJob
  references p := by simp [State.reference_invalidateCell]
  otherReferences p := by
    have same : v.reference c.other p = s.reference c.other p := by
      unfold State.reference
      rw [references]
    simpa [State.reference_invalidateCell] using same
  due := by simpa using due
  opportunity := by simpa using opportunity
  channels := by simpa using channels
  requests := by simpa using requests

theorem State.disableCell_disabled (s : State) (c : CellId) : CellDisabled s c (s.disableCell c) := by
  cases hj : s.job c with
  | none =>
    rw [State.disableCell_free hj]
    exact .of_ended (.downed s c) rfl ((s.downed_job c c).trans hj) (s.downed_job c c.other) rfl
      rfl (s.downed_opportunity c).1 rfl rfl
  | some j =>
    rw [State.disableCell_owned hj]
    have hj' := (s.downed_job c c).trans hj
    obtain ⟨cells, channels, scan, requests, references, -⟩ := (s.downed c).releaseReport_frame j
    obtain ⟨dchannels, drequests, dreferences, -⟩ := s.downed_frame c
    have unfolded := (s.downed c).abortJob_eq c j .aborted
    refine .of_ended (.trans (.downed s c) (.abortJob c .aborted hj')) ?_ (by simp)
      (by simpa using s.downed_job c c.other) ?_ ?_ ?_ ?_ ?_
    · rw [unfolded]; simpa using cells
    · rw [unfolded]; simpa using references.trans dreferences
    · rw [unfolded]; simp [scan]
    · rw [unfolded, State.finishJob_reads_opportunity, State.releaseReport_opportunity,
        (s.downed_opportunity c).1, (s.downed_idleFree c).1, Bool.and_false, Bool.or_false]
    · rw [unfolded]; simpa using channels.trans dchannels
    · rw [unfolded]; simpa using requests.trans drequests

/-! ### The record of the job, and the check -/

/-- The invalidation of the cell's records and the last check leave queue and opportunities. -/
theorem State.invalidateCheck_keeps (v : State) (c : CellId) :
    (v.invalidateCell c).completionCheck.results = v.results ∧
      ∀ d, (v.invalidateCell c).completionCheck.opportunity d = v.opportunity d := by
  simp

theorem State.monitor_timer (s : State) (i : Fin 16) (r : Record) :
    (s.monitor i r).2.timer = s.timer := by simp

theorem State.monitor_events (s : State) (i : Fin 16) (r : Record) :
    (s.monitor i r).2.events = s.events := by simp

/-- What CELL_DISABLE leaves of a cell's job: its slots, its record and the completion check, against
the state `u` whose due list has lost the cell's entries. -/
structure DisabledJobEnds (s u : State) (c : CellId) (j : Job) (t : State) : Prop where
  reserved : t.results.reserved = s.results.reserved - j.heldSlots
  number : t.results.nextSequence = s.results.nextSequence + 1
  opportunity : t.opportunity c.other =
    (s.opportunity c.other || (decide (j.slots = 2) && s.idleFree c.other))
  request : ∀ tag, j.origin = .request tag →
    t.results.records = s.results.records ++
        [{ j.endRecord .aborted s.timebase.counter with sequence := s.results.nextSequence }] ∧
      CompletionChecked (u.raise .requestDone) t
  scan : ∀ i n, j.origin = .scan i n →
    t.results.records = s.results.records ++
        [{ (u.monitor i (j.endRecord .aborted s.timebase.counter)).1 with
          sequence := s.results.nextSequence }] ∧
      CompletionChecked { (u.monitor i (j.endRecord .aborted s.timebase.counter)).2 with
        scan := { u.scan with jobsInFlight := u.scan.jobsInFlight - 1 } } t

theorem State.disableCell_ends {s u : State} {c : CellId} {j : Job} (hj : s.job c = some j)
    (hu : u = s.setScan (s.downed c).scan) : DisabledJobEnds s u c j (s.disableCell c) := by
  obtain ⟨-, -, scan, -, -, windows, timer, events, records, number⟩ :=
    (s.downed c).releaseReport_frame j
  have ends := State.abortJob_ends (s.downed c) c j .aborted
  have scan' : ((s.downed c).releaseReport j).scan = u.scan := by rw [scan, hu]; rfl
  have windows' : ((s.downed c).releaseReport j).windows = u.windows := by rw [windows, hu]; rfl
  have timer' : ((s.downed c).releaseReport j).timer = u.timer := by rw [timer, hu]; rfl
  have events' : ((s.downed c).releaseReport j).events = u.events := by rw [events, hu]; rfl
  rw [State.disableCell_owned hj]
  have results := fun v : State => (v.invalidateCheck_keeps c).1
  exact {
    reserved := by
      rw [results]
      exact ends.slot.trans ((s.downed c).releaseReport_reserved j)
    number := by
      rw [results, ends.number, number]
      rfl
    opportunity := by
      have h : ((s.downed c).abortJob c j .aborted).opportunity c.other =
          (s.opportunity c.other || (decide (j.slots = 2) && s.idleFree c.other)) := by
        rw [State.abortJob_eq, State.finishJob_reads_opportunity, State.releaseReport_opportunity,
          (s.downed_opportunity c).2, (s.downed_idleFree c).2]
      simpa using h
    request := by
      intro tag ho
      obtain ⟨appended, scan₁, timer₁, windows₁, events₁⟩ := ends.request tag ho
      rw [records, number] at appended
      refine ⟨by rw [results]; exact appended, State.completionCheck_congr (scan₁.trans scan')
        (timer₁.trans timer') (windows₁.trans windows')
        (events₁.trans (by simp only [State.raise, events']))⟩
    scan := by
      intro i n ho
      obtain ⟨appended, checked⟩ := ends.scan i n ho
      obtain ⟨seen, members⟩ := State.monitor_congr (s := u) (t := (s.downed c).releaseReport j)
        (by rw [scan']) windows' i (j.endRecord .aborted s.timebase.counter)
      rw [records, number] at appended
      refine ⟨?_, CompletionChecked.again (v := (s.downed c).abortJob c j .aborted)
        (checked.from_eq ?_ ?_ ?_ ?_) rfl rfl rfl rfl⟩
      · rw [← seen, results]
        exact appended
      · simp [scan']
      · exact (State.monitor_timer u i _).trans (timer'.symm.trans (State.monitor_timer _ i _).symm)
      · exact members.symm
      · exact (State.monitor_events u i _).trans
          (events'.symm.trans (State.monitor_events _ i _).symm) }

/-- Settles O19: the cell goes DOWN, its job ends as `DisabledJobEnds` says, and the last completion
check adds nothing to the one a scan job's end has made. -/
theorem cellDisableEndsEverythingOfTheCell : Obligations.CellDisableEndsEverythingOfTheCell := by
  refine ⟨fun s at_command outside => ?_, ?_⟩
  · refine exec_of_reply (rule := cellDisable) rfl rfl at_command ?_
    unfold Machine.cellDisable
    rw [cellOfByte_none outside]
    rfl
  · intro s c at_command named due u
    have answers : exec .cellDisable s =
        .next ((s.disableCell c).reported 0x11 .done 0 0 0 0) := by
      refine exec_of_reply (rule := cellDisable) rfl rfl at_command ?_
      unfold Machine.cellDisable
      rw [named, cellOfByte_cellNumber]
      rfl
    obtain ⟨settings, cell, otherCell, job, otherJob, references, otherReferences, hdue,
      opportunity, channels, requests⟩ := s.disableCell_disabled c
    refine ⟨_, answers, settings.reported _ _ _ _ _ _, cell, otherCell, job, otherJob, references,
      otherReferences, hdue, opportunity, channels, requests, fun free => ?_, fun j hj => ?_⟩
    · rw [State.disableCell_free free]
      obtain ⟨results, opportunities⟩ := (s.downed c).invalidateCheck_keeps c
      exact ⟨results, (State.completionCheck_congr (s := u) (t := (s.downed c).invalidateCell c)
        rfl rfl rfl rfl).congr rfl rfl rfl rfl,
        (opportunities c.other).trans (s.downed_opportunity c).2⟩
    · obtain ⟨reserved, number, opportunity, request, scan⟩ :=
        State.disableCell_ends (u := u) hj rfl
      refine ⟨reserved, number, opportunity, fun tag ho => ?_, fun i n ho => ?_⟩
      · obtain ⟨records, checked⟩ := request tag ho
        exact ⟨records, checked.congr rfl rfl rfl rfl⟩
      · obtain ⟨records, checked⟩ := scan i n ho
        exact ⟨records, checked.congr rfl rfl rfl rfl⟩

end Sys2Proof.Machine
end

section
-- One declaration at a time: the stacks of parallel elaboration do not fit under the memory limit.
set_option Elab.async false
/-!
What a cell does by itself (R1, R5, R9 to R21): the crossings and the expiries, from the equations of
its lower crossing and of its samples.
-/
namespace Sys2Proof.Machine

section
variable {s : State} {c : CellId} {k k' : Cell} {o : Order}

/-! ### An event of the cell's own, as a row -/

theorem State.setCell_setCell (s : State) (c : CellId) (k k' : Cell) :
    (s.setCell c k).setCell c k' = s.setCell c k' := by
  cases c <;> rfl

/-- A cell that delivers rests at once, so what the end of the order clears is not seen. -/
theorem State.deliver_of_rest (h : k.rest = k'.rest) (ch : Fin 10) (out : Outcome) :
    (s.setCell c k).deliver c ch out = (s.setCell c k').deliver c ch out := by
  have same : (s.setCell c k).setCell c ((s.setCell c k).cell c).rest =
      (s.setCell c k').setCell c ((s.setCell c k').cell c).rest := by
    rw [State.setCell_setCell, State.setCell_setCell, State.cell_setCell_self,
      State.cell_setCell_self, h]
  unfold State.deliver
  dsimp only
  rw [same]

theorem State.settleCell_delivers (ho : k.order = some o) (h : k.rest = k'.rest) (out : Outcome) :
    s.settleCell c (k, some out) = (s.setCell c k').deliver c o.channel out := by
  rw [State.settleCell_some _ _ _ _ ho]
  exact State.deliver_of_rest h _ _

theorem State.settleCell_delivers_here (ho : k.order = some o) (h : k.rest = (s.cell c).rest)
    (out : Outcome) : s.settleCell c (k, some out) = s.deliver c o.channel out := by
  rw [State.settleCell_delivers (s := s) (c := c) ho h, State.setCell_cell]

theorem exec_lowerCrossing_moves
    (h : (s.cell c).lowerCrossing s.timebase.divider.toNat = (k, none)) :
    exec (.lowerCrossing c) s = .next (s.setCell c k) :=
  congrArg (fun r => Host.Outcome.next (s.settleCell c r)) h

theorem exec_lowerCrossing_ends {out : Outcome} (ho : k.order = some o)
    (rest : k.rest = { s.cell c with level := .low }.rest)
    (h : (s.cell c).lowerCrossing s.timebase.divider.toNat = (k, some out)) :
    exec (.lowerCrossing c) s =
      .next ((s.setCell c { s.cell c with level := .low }).deliver c o.channel out) :=
  congrArg Host.Outcome.next
    ((congrArg (s.settleCell c) h).trans (State.settleCell_delivers ho rest out))

/-! ### When a crossing is noticed -/

theorem Cell.coincides_of_state (hm : k.state ≠ .measuring) (hd : k.state ≠ .discharging) :
    k.coincides = false := by
  unfold Cell.coincides
  split <;> simp_all

theorem Cell.coincides_counting (hs : k.state = .measuring) (ho : k.order = some o)
    (hm : o.method = .count) : k.coincides = false := by
  simp [Cell.coincides, hs, ho, hm]

theorem Cell.coincides_more (hs : k.state = .measuring) (ho : k.order = some o)
    (more : k.crossings + 1 < o.cycles) : k.coincides = false := by
  simp [Cell.coincides, hs, ho, more]

theorem Cell.coincides_timed (hs : k.state = .measuring) (ho : k.order = some o)
    (ticks : k.phaseTimer.value ≠ 0) : k.coincides = false := by
  simp [Cell.coincides, hs, ho, ticks]

theorem Cell.coincides_discharged (hs : k.state = .discharging) (ho : k.order = some o)
    (ticks : k.phaseTimer.value ≠ 0) : k.coincides = false := by
  simp [Cell.coincides, hs, ho, ticks]

/-! ### Crossings by level, and settle -/

theorem Cell.upperCrossing_restarts (low : k.level = .low)
    (hs : k.state = .starting ∨ k.state = .measuring) :
    k.upperCrossing = { k with level := .high, stallTimer := some 0 } := by
  obtain hs | hs := hs <;> simp [Cell.upperCrossing, low, hs]

theorem Cell.upperCrossing_raises (low : k.level = .low) (hs : k.state ≠ .starting)
    (hm : k.state ≠ .measuring) : k.upperCrossing = { k with level := .high } := by
  cases h : k.state <;> simp_all [Cell.upperCrossing]

theorem Cell.upperCrossing_ignored (high : k.level = .high) : k.upperCrossing = k := by
  simp [Cell.upperCrossing, high]

/-- The first lower crossing of an order is the reference point. -/
theorem Cell.settleCrossing_first (d : Nat) (first : k.referenceTaken = false)
    (more : k.settleLeft ≠ 0) :
    k.settleCrossing d o = { k with stallTimer := some 0, referenceTaken := true } := by
  simp [Cell.settleCrossing, first, more]

/-- With S 0 it ends settle. -/
theorem Cell.settleCrossing_only (d : Nat) (first : k.referenceTaken = false)
    (none : k.settleLeft = 0) : k.settleCrossing d o =
      ({ k with stallTimer := some 0, referenceTaken := true }).endSettle d o := by
  simp [Cell.settleCrossing, first, none]

theorem Cell.settleCrossing_next (d : Nat) (later : k.referenceTaken = true)
    (more : 1 < k.settleLeft) : k.settleCrossing d o =
      { k with stallTimer := some 0, settleLeft := k.settleLeft - 1 } := by
  have left : k.settleLeft - 1 ≠ 0 := by omega
  simp [Cell.settleCrossing, later, left]

theorem Cell.settleCrossing_last (d : Nat) (later : k.referenceTaken = true)
    (last : k.settleLeft = 1) : k.settleCrossing d o =
      ({ k with stallTimer := some 0, settleLeft := 0 }).endSettle d o := by
  simp [Cell.settleCrossing, later, last]

/-- Settles O49: crossings by level; in STARTING by the reference point and the settle count. -/
theorem crossingsTurnTheLevelAndSettle : Obligations.CrossingsTurnTheLevelAndSettle := by
  refine ⟨fun s c => ⟨fun low hs => ?_, fun low hs hm => ?_, fun high => ?_, fun high hs => ?_,
    fun low => ?_⟩, fun s c o => ?_⟩
  · exact congrArg (fun k => Host.Outcome.next (s.setCell c k)) (Cell.upperCrossing_restarts low hs)
  · exact congrArg (fun k => Host.Outcome.next (s.setCell c k))
      (Cell.upperCrossing_raises low hs hm)
  · refine (congrArg (fun k => Host.Outcome.next (s.setCell c k))
      (Cell.upperCrossing_ignored high)).trans ?_
    rw [State.setCell_cell]
  · refine exec_lowerCrossing_moves (Cell.lowerCrossing_other _ ⟨high, ?_⟩ (.inr ?_))
    · exact Cell.coincides_of_state (by rintro e; simp [e] at hs) (by rintro e; simp [e] at hs)
    · refine ⟨?_, ?_, ?_⟩ <;> rintro e <;> simp [e] at hs
  · have h := exec_lowerCrossing_moves (s := s) (c := c)
      (Cell.lowerCrossing_ignored _ (by simp [low]))
    rwa [State.setCell_cell] at h
  · intro k begun turned high hs ho
    have settles : ∀ {x}, ({ s.cell c with level := .low }).settleCrossing
        s.timebase.divider.toNat o = x → exec (.lowerCrossing c) s = .next (s.setCell c x) := by
      rintro x rfl
      have noticed : (s.cell c).coincides = false :=
        Cell.coincides_of_state (by rw [hs]; decide) (by rw [hs]; decide)
      exact exec_lowerCrossing_moves (Cell.lowerCrossing_starting _ ⟨high, noticed⟩ hs ho)
    have ends : ∀ x : Cell, x.endSettle s.timebase.divider.toNat o = begun x := by
      intro x
      unfold Cell.endSettle Cell.beginSample
      cases hm : o.method <;> simp [begun, hm, Cell.openGate]
    refine ⟨fun first more => settles (Cell.settleCrossing_first _ first more),
      fun first none => settles ?_, fun later more => settles (Cell.settleCrossing_next _ later more),
      fun later last => settles ?_⟩
    · rw [← ends]
      exact Cell.settleCrossing_only _ first none
    · rw [← ends]
      exact Cell.settleCrossing_last _ later last

/-! ### Lower crossings that count and end samples -/

theorem Cell.countCrossing_counts {n : Nat} (d : Nat) (gate : k.phaseTimer = .down n)
    (room : k.crossings < 65535) : k.countCrossing d o =
      ({ k with stallTimer := some 0, crossings := k.crossings + 1 }, none) := by
  have room' : ¬ Config.maxCrossings ≤ k.crossings := Nat.not_le.mpr room
  simp [Cell.countCrossing, gate, room']

theorem Cell.countCrossing_full {n : Nat} (d : Nat) (gate : k.phaseTimer = .down n)
    (full : k.crossings = 65535) : k.countCrossing d o =
      ({ k with stallTimer := some 0 }, some (.overrange k.samplesDone)) := by
  simp [Cell.countCrossing, gate, full]

theorem Cell.countCrossing_opens (d : Nat) (between : k.phaseTimer = .stopped) :
    k.countCrossing d o = ({ k with
      stallTimer := some 0, crossings := 0, phaseTimer := .down (o.gate * d) }, none) := by
  simp [Cell.countCrossing, between, Cell.openGate]

theorem Cell.periodCrossing_counts (d : Nat) (more : k.crossings + 1 < o.cycles) :
    k.periodCrossing d o =
      ({ k with stallTimer := some 0, crossings := k.crossings + 1 }, none) := by
  simp [Cell.periodCrossing, more]

theorem Cell.periodCrossing_begins {raw : Nat} (d : Nat) (hm : o.method = .period)
    (nth : ¬ k.crossings + 1 < o.cycles) (hr : min k.phaseTimer.value Config.maxTicks = raw)
    (more : k.samplesDone + 1 < o.m.toNat) :
    k.periodCrossing d o = ({ k with
      stallTimer := some 0, crossings := 0, phaseTimer := .up 0
      accumulator := k.accumulator + raw, samplesDone := k.samplesDone + 1 }, none) := by
  unfold Cell.periodCrossing
  dsimp only
  rw [if_neg nth, hr, Cell.completeSample_more _ (by exact more)]
  simp [Cell.beginSample, hm]

theorem Cell.periodCrossing_ends {raw : Nat} (d : Nat) (nth : ¬ k.crossings + 1 < o.cycles)
    (hr : min k.phaseTimer.value Config.maxTicks = raw) (last : k.samplesDone + 1 = o.m.toNat) :
    k.periodCrossing d o = ({ k with
      stallTimer := some 0, accumulator := k.accumulator + raw, samplesDone := k.samplesDone + 1 },
      some (.ok o.m.toNat ((k.accumulator + raw) / o.m.toNat))) := by
  unfold Cell.periodCrossing
  dsimp only
  rw [if_neg nth, hr, Cell.completeSample_last _ (by dsimp only; omega)]

theorem Cell.dischargeCrossing_begins {raw : Nat} (hr : k.phaseTimer.value = raw)
    (more : k.samplesDone + 1 < o.m.toNat) :
    k.dischargeCrossing o = ({ k with
      state := .precharging, phaseTimer := .down o.precharge, stallTimer := none
      accumulator := k.accumulator + raw, samplesDone := k.samplesDone + 1 }, none) := by
  unfold Cell.dischargeCrossing
  rw [hr, Cell.completeSample_more _ more]
  rfl

theorem Cell.dischargeCrossing_ends {raw : Nat} (hr : k.phaseTimer.value = raw)
    (last : k.samplesDone + 1 = o.m.toNat) :
    k.dischargeCrossing o = ({ k with
      accumulator := k.accumulator + raw, samplesDone := k.samplesDone + 1 },
      some (.ok o.m.toNat ((k.accumulator + raw) / o.m.toNat))) := by
  unfold Cell.dischargeCrossing
  rw [hr, Cell.completeSample_last _ (by omega)]

/-- Settles O50: the crossing by the state and the method, the sample by the samples done. -/
theorem lowerCrossingsEndSamples : Obligations.LowerCrossingsEndSamples := by
  intro s c o k turned ends high ho
  refine ⟨fun hs hm => ?_, fun hs hm => ⟨fun more => ?_, fun n raw timer nth reading => ?_⟩,
    fun hs n timer ticks => ?_⟩
  · have noticed : (s.cell c).coincides = false := Cell.coincides_counting hs ho hm
    have crossing := Cell.lowerCrossing_counting s.timebase.divider.toNat ⟨high, noticed⟩ hs ho hm
    refine ⟨fun n gate => ⟨fun room => ?_, fun full => ?_⟩, fun between => ?_⟩
    · exact exec_lowerCrossing_moves (crossing.trans (Cell.countCrossing_counts _ gate room))
    · exact exec_lowerCrossing_ends (o := o) (by exact ho) (by rfl)
        (crossing.trans (Cell.countCrossing_full _ gate full))
    · exact exec_lowerCrossing_moves (crossing.trans (Cell.countCrossing_opens _ between))
  · have noticed : (s.cell c).coincides = false := Cell.coincides_more hs ho more
    exact exec_lowerCrossing_moves ((Cell.lowerCrossing_timing _ ⟨high, noticed⟩ hs ho
      (by rw [hm]; decide)).trans (Cell.periodCrossing_counts _ more))
  · have value : (s.cell c).phaseTimer.value = n := congrArg PhaseTimer.value timer
    have noticed : (s.cell c).coincides = false :=
      Cell.coincides_timed hs ho (by rw [value]; omega)
    have crossing := Cell.lowerCrossing_timing s.timebase.divider.toNat ⟨high, noticed⟩ hs ho
      (by rw [hm]; decide)
    have hr : min (s.cell c).phaseTimer.value Config.maxTicks = raw := by
      rw [value]
      change min n 16777215 = raw
      omega
    have last : ¬ (s.cell c).crossings + 1 < o.cycles := Nat.not_lt.mpr nth
    refine ⟨fun more => ?_, fun final => ?_⟩
    · exact exec_lowerCrossing_moves
        (crossing.trans (Cell.periodCrossing_begins _ hm last hr more))
    · exact exec_lowerCrossing_ends (o := o) (by exact ho) (by rfl)
        (crossing.trans (Cell.periodCrossing_ends _ last hr final))
  · have value : (s.cell c).phaseTimer.value = n := congrArg PhaseTimer.value timer
    have noticed : (s.cell c).coincides = false :=
      Cell.coincides_discharged hs ho (by rw [value]; omega)
    have crossing :=
      Cell.lowerCrossing_discharging s.timebase.divider.toNat ⟨high, noticed⟩ hs ho
    refine ⟨fun more => ?_, fun final => ?_⟩
    · exact exec_lowerCrossing_moves (crossing.trans (Cell.dischargeCrossing_begins value more))
    · exact exec_lowerCrossing_ends (o := o) (by exact ho) (by rfl)
        (crossing.trans (Cell.dischargeCrossing_ends value final))

/-! ### Expiries -/

/-- An expiry that is due, as a row. -/
theorem settles_when_due {b : Bool} {r : Cell × Option Outcome} {t : State} (due : b = true)
    (h : s.settleCell c r = t) : (if b then s.settleCell c r else s) = t :=
  (if_pos due).trans h

theorem Cell.releaseCapacitor_low (low : k.level = .low) :
    k.releaseCapacitor = (k, some (.underrange k.samplesDone)) := by
  simp [Cell.releaseCapacitor, low]

theorem Cell.releaseCapacitor_high (high : k.level = .high) : k.releaseCapacitor =
    ({ k with state := .discharging, phaseTimer := .up 0, stallTimer := some 0 }, none) := by
  simp [Cell.releaseCapacitor, high]

/-- Settles O51: each expiry is due at its end value, and then moves the cell or delivers. -/
theorem expiriesEndSamples : Obligations.ExpiriesEndSamples := by
  intro s c o k ends ho
  refine ⟨fun hs hm gate => ?_, fun hs timer => ?_, fun hs hm timer => ?_, fun hs stall => ?_⟩
  · have due : (s.cell c).gateDue = true := Cell.gateDue_iff.mpr ⟨o, ho, hs, hm, gate⟩
    have expiry := Cell.expireGate_order (k := s.cell c) ho
    refine ⟨fun none => ?_, fun counted more => ?_, fun counted last => ?_⟩
    · rw [if_pos none] at expiry
      exact congrArg Host.Outcome.next (settles_when_due due (by
        rw [expiry]
        exact State.settleCell_delivers_here (o := o) (by exact ho) (by rfl) _))
    · rw [if_neg counted, Cell.completeSample_more _ (by exact more)] at expiry
      exact congrArg Host.Outcome.next (settles_when_due due (by rw [expiry]; rfl))
    · rw [if_neg counted, Cell.completeSample_last _ (by exact Nat.not_lt.mpr last.ge)] at expiry
      exact congrArg Host.Outcome.next (settles_when_due due (by
        rw [expiry]
        exact State.settleCell_delivers_here (o := o) (by exact ho) (by rfl) _))
  · have due : (s.cell c).prechargeDue = true := by
      simp only [Cell.prechargeDue, Bool.and_eq_true, decide_eq_true_eq]
      exact ⟨⟨hs, timer⟩, Option.isSome_of_eq_some ho⟩
    refine ⟨fun low => ?_, fun high => ?_⟩
    · exact congrArg Host.Outcome.next (settles_when_due due (by
        rw [Cell.releaseCapacitor_low low]
        exact State.settleCell_delivers_here (o := o) (by exact ho) (by rfl) _))
    · exact congrArg Host.Outcome.next (settles_when_due due (by
        rw [Cell.releaseCapacitor_high high]
        rfl))
  · have due : (s.cell c).overflowDue = true := by
      unfold Cell.overflowDue
      rw [ho, timer]
      simp [show (s.cell c).state = .measuring from hs, hm]
    exact congrArg Host.Outcome.next (settles_when_due due
      (State.settleCell_delivers_here (o := o) (by exact ho) (by rfl) _))
  · have converting : (s.cell c).state.converting = true := by
      have some_of_three : ∀ x ∈ [CellState.starting, .measuring, .discharging],
          x.converting = true := by decide
      exact some_of_three _ hs
    have due : (s.cell c).stallDue = true := by
      unfold Cell.stallDue
      rw [ho, stall]
      simp [converting]
    exact congrArg Host.Outcome.next (settles_when_due due
      (State.settleCell_delivers_here (o := o) (by exact ho) (by rfl) _))

end

end Sys2Proof.Machine
end

section
-- One declaration at a time: the stacks of parallel elaboration do not fit under the memory limit.
set_option Elab.async false
/-!
Outcomes: the health update (R40 to R44), the outcome of a held job's reference order (R107, R109),
the main outcome (R111), and the end of a rest (R5, R108).
-/
namespace Sys2Proof.Machine

/-! ### The health update -/

/-- The channel goes FAULTED by the stall (R43). -/
abbrev ChannelRecord.Faults (r : ChannelRecord) (threshold : Nat) (level : Level) : Prop :=
  r.health ≠ .faulted ∧ (r.stalled threshold level).health = .faulted

theorem State.updateHealth_stall_quiet {s : State} {ch : Fin 10} {l : Level} (f : Bool) (n : Nat)
    (h : ¬ (s.channel ch).Faults s.channels.threshold l) : s.updateHealth ch f (.stall n l) =
      s.setChannel ch ((s.channel ch).stalled s.channels.threshold l) :=
  if_neg h

theorem State.updateHealth_stall_faults {s : State} {ch : Fin 10} {l : Level} (f : Bool) (n : Nat)
    (h : (s.channel ch).Faults s.channels.threshold l) : s.updateHealth ch f (.stall n l) =
      if isReference ch then ((s.setChannel ch ((s.channel ch).stalled s.channels.threshold
        l)).raise .channelFault).invalidateCell (cellOf ch)
      else (s.setChannel ch ((s.channel ch).stalled s.channels.threshold l)).raise .channelFault :=
  if_pos h

theorem State.updateHealth_passed {s : State} {ch : Fin 10} {o : Outcome} (f : Bool)
    (h : ∀ n l, o ≠ .stall n l) : s.updateHealth ch f o =
      if (s.channel ch).available = false ∧ ((s.channel ch).passed f).available = true then
        (s.setChannel ch ((s.channel ch).passed f)).offer (cellOf ch)
      else s.setChannel ch ((s.channel ch).passed f) := by
  cases o with
  | stall n l => exact absurd rfl (h n l)
  | _ => rfl

theorem State.updateHealth_stall_channel (s : State) (ch : Fin 10) (f : Bool) (n : Nat) (l : Level)
    (d : Fin 10) : (s.updateHealth ch f (.stall n l)).channel d =
      if d = ch then (s.channel ch).stalled s.channels.threshold l else s.channel d := by
  by_cases h : (s.channel ch).Faults s.channels.threshold l
  · rw [State.updateHealth_stall_faults f n h]
    split <;> simp [State.channel_setChannel]
  · rw [State.updateHealth_stall_quiet f n h, State.channel_setChannel]

theorem State.updateHealth_passed_channel {s : State} {ch : Fin 10} {o : Outcome} (f : Bool)
    (h : ∀ n l, o ≠ .stall n l) (d : Fin 10) : (s.updateHealth ch f o).channel d =
      if d = ch then (s.channel ch).passed f else s.channel d := by
  rw [State.updateHealth_passed f h]
  split <;> simp [State.channel_setChannel]

/-- CHANNEL_FAULT after a stall (R43). -/
theorem State.updateHealth_stall_raised (s : State) (ch : Fin 10) (f : Bool) (n : Nat) (l : Level) :
    (s.updateHealth ch f (.stall n l)).raised .channelFault = true ↔
      s.raised .channelFault = true ∨ (s.channel ch).Faults s.channels.threshold l := by
  have raised : ∀ t : State, t.events = (s.raise .channelFault).events →
      t.raised .channelFault = true := by
    intro t ht
    have same : t.raised .channelFault = (s.raise .channelFault).raised .channelFault := by
      rw [State.raised_eq, State.raised_eq, ht]
    rw [same, State.raised_raise]
    simp
  by_cases h : (s.channel ch).Faults s.channels.threshold l
  · refine iff_of_true (raised _ ?_) (.inr h)
    rw [State.updateHealth_stall_faults f n h]
    split <;> rfl
  · rw [State.updateHealth_stall_quiet f n h, or_iff_left h]
    exact Iff.rfl

/-- The cell's reference records after a stall (R44). -/
theorem State.updateHealth_stall_reference (s : State) (ch : Fin 10) (f : Bool) (n : Nat)
    (l : Level) (c : CellId) (p : Fin 4) : (s.updateHealth ch f (.stall n l)).reference c p =
      if 8 ≤ ch.val ∧ c = cellOf ch ∧ (s.channel ch).Faults s.channels.threshold l then
        ReferenceRecord.invalid else s.reference c p := by
  by_cases h : (s.channel ch).Faults s.channels.threshold l
  · rw [State.updateHealth_stall_faults f n h]
    by_cases reference : isReference ch = true
    · rw [if_pos reference, State.reference_invalidateCell]
      by_cases own : c = cellOf ch
      · rw [if_pos own, if_pos ⟨isReference_eq_true.mp reference, own, h⟩]
      · rw [if_neg own, if_neg (fun all => own all.2.1)]
        rfl
    · rw [if_neg reference, if_neg (fun all => reference (isReference_eq_true.mpr all.1))]
      rfl
  · rw [State.updateHealth_stall_quiet f n h, if_neg (fun all => h all.2.2)]
    rfl

theorem ChannelRecord.passed_becomes_available (r : ChannelRecord) (f : Bool) :
    r.available = false ∧ (r.passed f).available = true ↔
      r.enabled = true ∧ r.health = .faulted ∧ f = true := by
  cases hr : r.enabled <;> cases hh : r.health <;> cases f <;>
    simp [ChannelRecord.available, ChannelRecord.passed, hr, hh]

theorem State.setChannel_idleFree (s : State) (ch : Fin 10) (r : ChannelRecord) (c : CellId) :
    (s.setChannel ch r).idleFree c = s.idleFree c := rfl

/-- The opportunity of a forced conversion that clears a fault (R44). -/
theorem State.updateHealth_passed_opportunity {s : State} {ch : Fin 10} {o : Outcome} (f : Bool)
    (h : ∀ n l, o ≠ .stall n l) (c : CellId) : (s.updateHealth ch f o).opportunity c =
      (s.opportunity c || (decide (c = cellOf ch ∧ (s.channel ch).enabled = true ∧
        (s.channel ch).health = .faulted ∧ f = true) && s.idleFree c)) := by
  have becomes := (s.channel ch).passed_becomes_available f
  rw [State.updateHealth_passed f h]
  by_cases available : (s.channel ch).enabled = true ∧ (s.channel ch).health = .faulted ∧ f = true
  · rw [if_pos (becomes.mpr available), State.offer_opportunity, State.setChannel_idleFree]
    by_cases own : c = cellOf ch
    · subst own
      simp [available]
    · simp [own]
  · rw [if_neg (fun h => available (becomes.mp h)), decide_eq_false (fun h => available h.2)]
    simp

/-- Settles O53: a STALL by whether it makes the channel FAULTED, any other outcome by whether it
makes the channel available. -/
theorem healthFollowsOutcomes : Obligations.HealthFollowsOutcomes := by
  intro s ch forced o r t
  have channels : (∀ d, d ≠ ch → t.channel d = s.channel d) ∧ (t.channel ch).enabled = r.enabled := by
    by_cases h : ∃ n l, o = .stall n l
    · obtain ⟨n, l, rfl⟩ := h
      have channel := s.updateHealth_stall_channel ch forced n l
      refine ⟨fun d other => (channel d).trans (if_neg other), ?_⟩
      rw [show t.channel ch = _ from (channel ch).trans (if_pos rfl)]
      rfl
    · have channel := State.updateHealth_passed_channel (s := s) (ch := ch) forced
        (fun n l e => h ⟨n, l, e⟩)
      refine ⟨fun d other => (channel d).trans (if_neg other), ?_⟩
      rw [show t.channel ch = _ from (channel ch).trans (if_pos rfl)]
      rfl
  refine ⟨.updateHealth _ _ _ _, (State.updateHealth_frame ..).1, (State.updateHealth_frame ..).2.2.1,
    (by simp [t]), channels.1, channels.2, fun n l stall => ?_, fun passed => ?_⟩
  · subst stall
    have channel : t.channel ch = r.stalled s.channels.threshold l :=
      (s.updateHealth_stall_channel ch forced n l ch).trans (if_pos rfl)
    rw [channel]
    refine ⟨rfl, rfl, fun full => if_pos full, fun short good => ?_, fun short bad => ?_,
      s.updateHealth_stall_raised ch forced n l, fun c p => ?_⟩
    · exact (if_neg (Nat.not_le.mpr short)).trans (if_pos good)
    · exact (if_neg (Nat.not_le.mpr short)).trans (if_neg bad)
    · exact s.updateHealth_stall_reference ch forced n l c p
  · have channel : t.channel ch = r.passed forced :=
      (State.updateHealth_passed_channel forced passed ch).trans (if_pos rfl)
    refine ⟨by rw [channel]; rfl, by rw [channel]; rfl, by rw [channel]; rfl, ?_, ?_,
      State.updateHealth_passed_opportunity forced passed⟩
    all_goals
      rw [show t = _ from State.updateHealth_passed (s := s) (ch := ch) forced passed]
      split <;> simp

/-! ### The end of a job, seen from states that agree -/

/-- The end of a job reads the result queue, the scan sequencer, the scan timer, the windows, the
events and the other cell's job alone. -/
theorem JobEnds.from_eq {u u' t : State} {c : CellId} {j : Job} {r : Record} (h : JobEnds u c j r t)
    (job : u'.job c.other = u.job c.other) (results : u'.results = u.results)
    (scan : u'.scan = u.scan) (timer : u'.timer = u.timer) (windows : u'.windows = u.windows)
    (events : u'.events = u.events) : JobEnds u' c j r t where
  job := h.job
  otherJob := h.otherJob.trans job.symm
  number := by rw [h.number, results]
  slot := by rw [h.slot, results]
  request tag ho := by
    obtain ⟨records, scan', timer', windows', events'⟩ := h.request tag ho
    exact ⟨by rw [records, results], scan'.trans scan.symm, timer'.trans timer.symm,
      windows'.trans windows.symm, by rw [events']; simp only [State.raise, events]⟩
  scan i n ho := by
    obtain ⟨records, checked⟩ := h.scan i n ho
    obtain ⟨seen, members⟩ :=
      State.monitor_congr (s := u) (t := u') (congrArg Scan.active scan) windows i r
    refine ⟨by rw [seen, results]; exact records, checked.from_eq ?_ ?_ members ?_⟩
    · exact congrArg (fun x : Scan => { x with jobsInFlight := x.jobsInFlight - 1 }) scan
    · exact (State.monitor_timer u' i r).trans (timer.trans (State.monitor_timer u i r).symm)
    · exact (State.monitor_events u' i r).trans (events.trans (State.monitor_events u i r).symm)

theorem JobEnds.congr {u t t' : State} {c : CellId} {j : Job} {r : Record} (h : JobEnds u c j r t)
    (job : ∀ d, t'.job d = t.job d) (results : t'.results = t.results)
    (scan : t'.scan = t.scan) (timer : t'.timer = t.timer) (windows : t'.windows = t.windows)
    (events : t'.events = t.events) : JobEnds u c j r t' where
  job := (job c).trans h.job
  otherJob := (job c.other).trans h.otherJob
  number := by rw [results, h.number]
  slot := by rw [results, h.slot]
  request tag ho := by
    obtain ⟨records, scan', timer', windows', events'⟩ := h.request tag ho
    exact ⟨by rw [results, records], scan.trans scan', timer.trans timer',
      windows.trans windows', events.trans events'⟩
  scan i n ho := by
    obtain ⟨records, checked⟩ := h.scan i n ho
    exact ⟨by rw [results]; exact records, checked.congr scan timer windows events⟩

/-! ### A completion at dispatch, and the end of a rest -/

/-- A job that ends without a conversion leaves its cell IDLE and free, with an opportunity (R104). -/
structure CompletesAtDispatch (s : State) (c : CellId) (j : Job) (st : RecordStatus) (t : State) :
    Prop where
  settings : SettingsKept s t
  cells : t.cells = s.cells
  channels : t.channels = s.channels
  references : t.references = s.references
  requests : t.requests = s.requests
  opportunity : t.opportunity c = true
  otherOpportunity : t.opportunity c.other = s.opportunity c.other
  ends : JobEnds s c j (j.endRecord st s.timebase.counter) t

theorem State.completeAtDispatch_completes {s : State} {c : CellId} {j : Job} (st : RecordStatus)
    (idle : (s.cell c).state = .idle) :
    CompletesAtDispatch s c j st (s.completeAtDispatch c j st) where
  settings := .trans (.finishJob s c j _) (by
    unfold State.completeAtDispatch State.offer
    split
    · exact .setOpportunity _ _ _
    · exact .refl _)
  cells := by simp [State.completeAtDispatch]
  channels := by simp [State.completeAtDispatch]
  references := by simp [State.completeAtDispatch]
  requests := by simp [State.completeAtDispatch]
  opportunity := by
    have free : (s.finishJob c j (j.endRecord st s.timebase.counter)).idleFree c = true :=
      (State.idleFree_iff _ _).mpr ⟨by simpa using idle, by simp⟩
    rw [State.completeAtDispatch, State.offer_opportunity, free]
    simp
  otherOpportunity := by
    rw [State.completeAtDispatch, State.offer_opportunity]
    simp
  ends := (State.finishJob_ends s c j _ rfl).congr (by simp [State.completeAtDispatch])
    (by simp [State.completeAtDispatch]) (by simp [State.completeAtDispatch])
    (by simp [State.completeAtDispatch]) (by simp [State.completeAtDispatch])
    (by simp [State.completeAtDispatch])

theorem State.restExpiry_free {s : State} {c : CellId} (due : (s.cell c).restDue = true)
    (free : s.job c = none) :
    s.restExpiry c = (s.setCell c (s.cell c).endRest).setOpportunity c true := by
  have job : (s.setCell c (s.cell c).endRest).job c = none := free
  have idle : (s.setCell c (s.cell c).endRest).idleFree c = true :=
    (State.idleFree_iff _ _).mpr ⟨by simp [Cell.endRest], job⟩
  rw [State.restExpiry, if_pos due]
  dsimp only
  rw [job]
  exact if_pos idle

theorem State.restExpiry_owned {s : State} {c : CellId} {j : Job}
    (due : (s.cell c).restDue = true) (hj : s.job c = some j) :
    s.restExpiry c = (s.setCell c (s.cell c).endRest).recheck c j := by
  have job : (s.setCell c (s.cell c).endRest).job c = some j := hj
  rw [State.restExpiry, if_pos due]
  dsimp only
  rw [job]

/-- Settles O52: by the job, and for a job between its orders by the recheck of its channel. -/
theorem restEndsInIdleOrTheMainOrder : Obligations.RestEndsInIdleOrTheMainOrder := by
  intro s c idle resting timer
  have due : (s.cell c).restDue = true := by simp [Cell.restDue, resting, timer]
  refine ⟨fun free => congrArg Host.Outcome.next (State.restExpiry_free due free),
    fun j hj => ?_⟩
  intro usable
  have owned := State.restExpiry_owned due hj
  refine ⟨fun ready => ?_, fun refused => ?_⟩
  · have order : (s.setCell c idle).recheck c j =
        (s.setCell c idle).giveOrder c (orderOf j.channel j.copy j.m) := if_pos ready
    refine ⟨idle.take (orderOf j.channel j.copy j.m), congrArg Host.Outcome.next
      (owned.trans (order.trans ?_)), Cell.take_takes _ _⟩
    rw [State.giveOrder, State.setCell_setCell, State.cell_setCell_self]
  · have ended : (s.setCell c idle).recheck c j =
        (s.setCell c idle).completeAtDispatch c j .unavailable := if_neg refused
    have done := State.completeAtDispatch_completes (s := s.setCell c idle) (c := c) (j := j)
      .unavailable (by rw [State.cell_setCell_self])
    refine ⟨_, congrArg Host.Outcome.next (owned.trans ended), .trans (.setCell s c idle)
      done.settings, ?_, ?_, done.opportunity, done.otherOpportunity, done.channels,
      done.references, done.requests, done.ends.from_eq rfl rfl rfl rfl rfl rfl⟩
    · rw [State.cell_eq_of_cells done.cells, State.cell_setCell_self]
    · rw [State.cell_eq_of_cells done.cells, State.cell_setCell_other]

/-! ### What an outcome offers to the reference cache (R123 to R125) -/

theorem State.offerReference_elsewhere (s : State) (c : CellId) (j : Job) (o : Outcome) (n : Nat)
    {d : CellId} {q : Fin 4} (h : d ≠ c ∨ q ≠ j.profile) :
    (s.offerReference c j o n).reference d q = s.reference d q := by
  have not_there : ¬ (d = c ∧ q = j.profile) := fun ⟨hd, hq⟩ => h.elim (· hd) (· hq)
  unfold State.offerReference
  split
  · split
    · rw [State.reference_setReference, if_neg not_there]
    · rfl
  · rw [State.invalidate, State.reference_setReference, if_neg not_there]

theorem State.offerReference_failed (s : State) (c : CellId) (j : Job) {o : Outcome} (n : Nat)
    (h : ∀ k raw, o ≠ .ok k raw) :
    (s.offerReference c j o n).reference c j.profile = ReferenceRecord.invalid := by
  cases o with
  | ok k raw => exact absurd rfl (h k raw)
  | _ => exact (State.reference_setReference ..).trans (if_pos ⟨rfl, rfl⟩)

theorem State.offerReference_stored (s : State) (c : CellId) (j : Job) (k raw n : Nat) :
    (s.offerReference c j (.ok k raw) n).reference c j.profile =
      if j.copy.generation = (s.profile j.profile).generation ∧
          s.available (referenceChannel c) = true ∧ j.superseded = false then
        { valid := true, raw := raw, stamp := s.timebase.counter, uses := n,
          generation := j.copy.generation }
      else s.reference c j.profile := by
  unfold State.offerReference
  dsimp only
  split
  · exact (State.reference_setReference ..).trans (if_pos ⟨rfl, rfl⟩)
  · rfl

/-! ### The health update of a resting cell, as the outcome finds it -/

/-- What the rest and the health update leave of the state an outcome is delivered from. -/
structure AfterHealth (s : State) (c : CellId) (v : State) : Prop where
  settings : SettingsKept s v
  cell : v.cell c = (s.cell c).rest
  otherCell : v.cell c.other = s.cell c.other
  job : ∀ d, v.job d = s.job d
  requests : v.requests = s.requests
  results : v.results = s.results
  scan : v.scan = s.scan
  windows : v.windows = s.windows
  timer : v.timer = s.timer
  timebase : v.timebase = s.timebase
  profile : ∀ p, v.profile p = s.profile p

theorem State.afterHealth (s : State) (c : CellId) (ch : Fin 10) (f : Bool) (o : Outcome) :
    AfterHealth s c ((s.setCell c (s.cell c).rest).updateHealth ch f o) where
  settings := .trans (.setCell s c _) (.updateHealth _ _ _ _)
  cell := by simp
  otherCell := by simp
  job := by simp
  requests := by simp
  results := by simp
  scan := by simp
  windows := by simp
  timer := by simp
  timebase := by simp
  profile := by simp

theorem State.deliver_main {s : State} {c : CellId} {j : Job} (hj : s.job c = some j)
    (main : j.phase = .main) (ch : Fin 10) (o : Outcome) : s.deliver c ch o =
      ((s.setCell c (s.cell c).rest).updateHealth ch j.force o).mainCompleted c j o := by
  unfold State.deliver
  dsimp only
  rw [show (s.setCell c (s.cell c).rest).job c = some j from hj]
  dsimp only
  rw [main]

theorem State.deliver_reference_ok {s : State} {c : CellId} {j : Job} (hj : s.job c = some j)
    (reference : j.phase = .reference) (ch : Fin 10) (n raw : Nat) : s.deliver c ch (.ok n raw) =
      ((s.setCell c (s.cell c).rest).updateHealth ch false (.ok n raw)).referencePassed c j
        (.ok n raw) raw := by
  unfold State.deliver
  dsimp only
  rw [show (s.setCell c (s.cell c).rest).job c = some j from hj]
  dsimp only
  rw [reference]

theorem State.deliver_reference_failed {s : State} {c : CellId} {j : Job} {o : Outcome}
    (hj : s.job c = some j) (reference : j.phase = .reference) (ch : Fin 10)
    (failed : ∀ n raw, o ≠ .ok n raw) : s.deliver c ch o =
      ((s.setCell c (s.cell c).rest).updateHealth ch false o).referenceFailed c j o := by
  unfold State.deliver
  dsimp only
  rw [show (s.setCell c (s.cell c).rest).job c = some j from hj]
  dsimp only
  rw [reference]
  cases o with
  | ok n raw => exact absurd rfl (failed n raw)
  | overrange n => dsimp only
  | underrange n => dsimp only
  | stall n l => dsimp only

/-! ### A main outcome (R111) -/

/-- What the end of a main outcome leaves, from the state after the health update. -/
structure MainCompletes (v : State) (c : CellId) (j : Job) (o : Outcome) (t : State) : Prop where
  settings : SettingsKept v t
  cells : t.cells = v.cells
  requests : t.requests = v.requests
  channels : t.channels = v.channels
  opportunity : ∀ d, t.opportunity d = v.opportunity d
  ends : JobEnds v c j (j.mainRecord o v.timebase.counter) t
  sensor : j.channel.val < 8 → t.references = v.references
  elsewhere : ∀ d q, d ≠ c ∨ q ≠ j.profile → t.reference d q = v.reference d q
  reference : 8 ≤ j.channel.val →
    t.reference c j.profile = (v.offerReference c j o 0).reference c j.profile

theorem State.mainCompleted_sensor {v : State} {c : CellId} {j : Job} {o : Outcome}
    (sensor : j.channel.val < 8) : MainCompletes v c j o (v.mainCompleted c j o) := by
  have skip : isReference j.channel ≠ true := fun h =>
    absurd (isReference_eq_true.mp h) (Nat.not_le.mpr sensor)
  have eq : v.mainCompleted c j o = v.finishJob c j (j.mainRecord o v.timebase.counter) := by
    unfold State.mainCompleted
    rw [if_neg skip]
  rw [eq]
  exact {
    settings := .finishJob _ _ _ _
    cells := by simp
    requests := by simp
    channels := by simp
    opportunity := by simp
    ends := State.finishJob_ends v c j _ rfl
    sensor := fun _ => by simp
    elsewhere := by simp
    reference := fun h => absurd sensor (Nat.not_lt.mpr h) }

theorem State.mainCompleted_reference {v : State} {c : CellId} {j : Job} {o : Outcome}
    (reference : 8 ≤ j.channel.val) : MainCompletes v c j o (v.mainCompleted c j o) := by
  have eq : v.mainCompleted c j o =
      (v.offerReference c j o 0).finishJob c j (j.mainRecord o v.timebase.counter) := by
    unfold State.mainCompleted
    rw [if_pos (isReference_eq_true.mpr reference)]
    simp
  have ends := State.finishJob_ends (v.offerReference c j o 0) c j
    (j.mainRecord o v.timebase.counter) rfl
  rw [eq]
  exact {
    settings := .trans (.offerReference v c j o 0) (.finishJob _ _ _ _)
    cells := by simp
    requests := by simp
    channels := by simp
    opportunity := fun d => by rw [State.finishJob_reads_opportunity]; simp [State.opportunity]
    ends := ends.from_eq (by simp [State.job]) (by simp) (by simp) (by simp) (by simp) (by simp)
    sensor := fun h => absurd h (Nat.not_lt.mpr reference)
    elsewhere := fun d q h => by
      rw [(State.finishJob_reads ..).2.2.2]
      exact State.offerReference_elsewhere v c j o 0 h
    reference := fun _ => (State.finishJob_reads ..).2.2.2 c j.profile }

theorem State.mainCompleted_completes (v : State) (c : CellId) (j : Job) (o : Outcome) :
    MainCompletes v c j o (v.mainCompleted c j o) := by
  by_cases h : j.channel.val < 8
  · exact State.mainCompleted_sensor h
  · exact State.mainCompleted_reference (Nat.not_lt.mp h)

/-! ### The records a job appends (R110) -/

/-- The fields that a record takes from the origin of its job. -/
theorem Origin.record_fields (o : Origin) :
    (∀ i n, o = .scan i n → o.sourceId = BitVec.ofNat 8 i.val ∧ o.cycle = some n) ∧
      (∀ tag, o = .request tag → o.sourceId = tag ∧ o.cycle = none) := by
  constructor
  · rintro i n rfl
    exact ⟨rfl, rfl⟩
  · rintro tag rfl
    exact ⟨rfl, rfl⟩

/-- The fields that a record takes from an outcome. -/
theorem Outcome.record_fields (o : Outcome) :
    (∀ n raw, o = .ok n raw →
      o.status = .ok ∧ o.samples = n ∧ o.raw = some raw ∧ o.stallLevel = none) ∧
    (∀ n, o = .overrange n →
      o.status = .overrange ∧ o.samples = n ∧ o.raw = none ∧ o.stallLevel = none) ∧
    (∀ n, o = .underrange n →
      o.status = .underrange ∧ o.samples = n ∧ o.raw = none ∧ o.stallLevel = none) ∧
    (∀ n l, o = .stall n l →
      o.status = .stall ∧ o.samples = n ∧ o.raw = none ∧ o.stallLevel = some l) := by
  refine ⟨?_, ?_, ?_, ?_⟩
  · rintro n raw rfl
    exact ⟨rfl, rfl, rfl, rfl⟩
  · rintro n rfl
    exact ⟨rfl, rfl, rfl, rfl⟩
  · rintro n rfl
    exact ⟨rfl, rfl, rfl, rfl⟩
  · rintro n l rfl
    exact ⟨rfl, rfl, rfl, rfl⟩

theorem Outcome.raw_ne_none_iff (o : Outcome) : o.raw ≠ none ↔ ∃ n raw, o = .ok n raw := by
  cases o <;> simp [Outcome.raw]

theorem Job.mainRecord_ratio_iff (j : Job) (o : Outcome) (now : BitVec 32) :
    (j.mainRecord o now).ratio ≠ none ↔
      j.ratio = true ∧ j.pairing ≠ none ∧ ∃ n raw, o = .ok n raw := by
  rw [← Outcome.raw_ne_none_iff]
  unfold Job.mainRecord
  dsimp only
  cases j.ratio <;> cases o.raw <;> cases j.pairing <;> simp

theorem isReference_eq_false {ch : Fin 10} (h : ch.val < 8) : isReference ch = false :=
  Bool.eq_false_iff.mpr fun h' => absurd (isReference_eq_true.mp h') (Nat.not_le.mpr h)

/-- Settles O54: the outcome by `MainCompletes`, the records field by field. -/
theorem mainOutcomesEndTheJob : Obligations.MainOutcomesEndTheJob := by
  refine ⟨fun s c o j hj main => ?_, fun j c o status now => ?_⟩
  · intro t v
    have after : AfterHealth s c v := s.afterHealth c j.channel j.force o
    have done : MainCompletes v c j o t := by
      rw [show t = _ from State.deliver_main hj main j.channel o]
      exact v.mainCompleted_completes c j o
    refine ⟨(State.cell_eq_of_cells done.cells c).trans after.cell,
      (State.cell_eq_of_cells done.cells c.other).trans after.otherCell,
      after.settings.trans done.settings, done.requests.trans after.requests, done.channels,
      done.opportunity, after.timebase ▸ done.ends, after.results, after.scan, after.windows,
      after.timer, after.job c.other, done.sensor, done.elsewhere, fun reference failed => ?_,
      fun reference n raw ok => ?_⟩
    · exact (done.reference reference).trans (State.offerReference_failed v c j 0 failed)
    · subst ok
      rw [done.reference reference, State.offerReference_stored, after.timebase, after.profile]
  · intro m e q fromOrigin fromOutcome
    have origin := j.origin.record_fields
    have outcome := o.record_fields
    refine ⟨origin, origin, origin, outcome, outcome, ?_, ?_, rfl, rfl, rfl, ?_, ?_, rfl, rfl, rfl,
      j.mainRecord_ratio_iff o now, rfl, rfl, rfl, rfl, rfl, rfl⟩
    · rintro ⟨i, n, ho⟩
      exact ⟨congrArg Origin.kind ho, congrArg Origin.kind ho⟩
    · rintro ⟨tag, ho⟩
      exact ⟨congrArg Origin.kind ho, congrArg Origin.kind ho⟩
    · cases c <;> rfl
    · intro r hr
      obtain rfl | rfl | rfl : r = m ∨ r = e ∨ r = q := by simpa using hr
      · exact ⟨rfl, rfl, rfl⟩
      · exact ⟨rfl, rfl, rfl⟩
      · exact ⟨rfl, rfl, rfl⟩

/-! ### The reference outcome of a held job (R107, R109) -/

/-- The reference-report records of a held job: one when it holds two slots. -/
def State.reports (s : State) (c : CellId) (j : Job) (o : Outcome) : List Record :=
  if j.slots = 2 then
    [{ j.reportRecord c o s.timebase.counter with sequence := s.results.nextSequence }]
  else []

/-- The result queue with these records appended into reserved slots. -/
def ResultQueue.withRecords (q : ResultQueue) (l : List Record) : ResultQueue :=
  { q with
    records := q.records ++ l, reserved := q.reserved - l.length
    nextSequence := q.nextSequence + BitVec.ofNat 16 l.length }

theorem State.reportReference_eq (s : State) (c : CellId) (j : Job) (o : Outcome) :
    s.reportReference c j o = { s with results := s.results.withRecords (s.reports c j o) } := by
  unfold State.reportReference State.reports
  split
  · rfl
  · unfold ResultQueue.withRecords
    simp

/-- What a reference outcome leaves, from the state `v` after the health update: the cache is offered
the outcome and the report is appended. -/
def State.referenceReported (v : State) (c : CellId) (j : Job) (o : Outcome) : State :=
  (v.offerReference c j o 1).reportReference c j o

theorem State.referenceReported_frame (v : State) (c : CellId) (j : Job) (o : Outcome) :
    (v.referenceReported c j o).cells = v.cells ∧
    (v.referenceReported c j o).dispatch = v.dispatch ∧
    (v.referenceReported c j o).channels = v.channels ∧
    (v.referenceReported c j o).requests = v.requests ∧
    (v.referenceReported c j o).references = (v.offerReference c j o 1).references ∧
    (v.referenceReported c j o).scan = v.scan ∧ (v.referenceReported c j o).windows = v.windows ∧
    (v.referenceReported c j o).timer = v.timer ∧ (v.referenceReported c j o).events = v.events ∧
    (v.referenceReported c j o).timebase = v.timebase ∧
    (v.referenceReported c j o).results = v.results.withRecords (v.reports c j o) := by
  unfold State.referenceReported
  rw [State.reportReference_eq]
  simp [State.reports]

theorem SettingsKept.referenceReported (v : State) (c : CellId) (j : Job) (o : Outcome) :
    SettingsKept v (v.referenceReported c j o) := by
  unfold State.referenceReported
  rw [State.reportReference_eq]
  exact .trans (.offerReference v c j o 1) ⟨rfl, rfl, rfl, rfl, rfl, rfl, rfl, rfl, rfl, rfl, rfl⟩

theorem State.referencePassed_eq (v : State) (c : CellId) (j : Job) (o : Outcome) (raw : Nat) :
    v.referencePassed c j o raw = (v.referenceReported c j o).setJob c (some { j with
      pairing := some raw, refreshed := true, phase := .main, slots := 1 }) := rfl

theorem State.referenceFailed_eq (v : State) (c : CellId) (j : Job) (o : Outcome) :
    v.referenceFailed c j o = (v.referenceReported c j o).finishJob c j
      (j.endRecord .refFailed v.timebase.counter) := by
  obtain ⟨-, -, -, -, -, -, -, -, -, timebase, -⟩ := v.referenceReported_frame c j o
  rw [← timebase]
  rfl

/-- What a reference outcome leaves whether or not it is OK. -/
structure ReferenceReports (v : State) (c : CellId) (j : Job) (o : Outcome) (t : State) : Prop where
  settings : SettingsKept v t
  cells : t.cells = v.cells
  channels : t.channels = v.channels
  requests : t.requests = v.requests
  opportunity : ∀ d, t.opportunity d = v.opportunity d
  otherJob : t.job c.other = v.job c.other
  reference : ∀ d q, t.reference d q = (v.offerReference c j o 1).reference d q

theorem State.referencePassed_reports (v : State) (c : CellId) (j : Job) (o : Outcome) (raw : Nat) :
    ReferenceReports v c j o (v.referencePassed c j o raw) := by
  obtain ⟨cells, dispatch, channels, requests, references, -⟩ := v.referenceReported_frame c j o
  rw [State.referencePassed_eq]
  exact {
    settings := .trans (.referenceReported v c j o) (.setJob _ _ _)
    cells := cells
    channels := channels
    requests := requests
    opportunity := fun d => by
      rw [State.opportunity_setJob, State.opportunity, dispatch]
      rfl
    otherJob := by
      rw [State.job_setJob_other, State.job, dispatch]
      rfl
    reference := fun d q => by
      rw [State.setJob_reference, State.reference, references]
      rfl }

theorem State.referenceFailed_reports (v : State) (c : CellId) (j : Job) (o : Outcome) :
    ReferenceReports v c j o (v.referenceFailed c j o) := by
  obtain ⟨cells, dispatch, channels, requests, references, -⟩ := v.referenceReported_frame c j o
  rw [State.referenceFailed_eq]
  exact {
    settings := .trans (.referenceReported v c j o) (.finishJob _ _ _ _)
    cells := by simpa using cells
    channels := by simpa using channels
    requests := by simpa using requests
    opportunity := fun d => by
      rw [State.finishJob_reads_opportunity, State.opportunity, dispatch]
      rfl
    otherJob := by
      rw [State.finishJob_job_other, State.job, dispatch]
      rfl
    reference := fun d q => by
      rw [(State.finishJob_reads ..).2.2.2, State.reference, references]
      rfl }

theorem State.deliver_reference_reports {s : State} {c : CellId} {j : Job} (hj : s.job c = some j)
    (reference : j.phase = .reference) (ch : Fin 10) (o : Outcome) :
    ReferenceReports ((s.setCell c (s.cell c).rest).updateHealth ch false o) c j o
      (s.deliver c ch o) := by
  by_cases ok : ∃ n raw, o = .ok n raw
  · obtain ⟨n, raw, rfl⟩ := ok
    rw [State.deliver_reference_ok hj reference]
    exact State.referencePassed_reports _ c j _ raw
  · rw [State.deliver_reference_failed hj reference ch fun n raw e => ok ⟨n, raw, e⟩]
    exact State.referenceFailed_reports _ c j o

/-- Settles O55: what both cases share is `ReferenceReports`; an OK outcome then pairs the job, and
any other ends it. -/
theorem referenceOutcomesPairOrFail : Obligations.ReferenceOutcomesPairOrFail := by
  intro s c o j hj reference t v report u
  have after : AfterHealth s c v := s.afterHealth c (referenceChannel c) false o
  have reports : ReferenceReports v c j o t :=
    State.deliver_reference_reports hj reference (referenceChannel c) o
  obtain ⟨-, dispatch, -, -, -, scan, windows, timer, events, -, results⟩ :=
    v.referenceReported_frame c j o
  have cell : t.cell c = (s.cell c).rest := (State.cell_eq_of_cells reports.cells c).trans after.cell
  have appended : v.reports c j o = report := by
    unfold State.reports
    rw [after.timebase, after.results]
  have hu : v.results.withRecords (v.reports c j o) = u.results := by
    rw [after.results, appended]
    rfl
  refine ⟨by rw [cell]; rfl, by rw [cell]; rfl, by rw [cell]; rfl,
    (State.cell_eq_of_cells reports.cells c.other).trans after.otherCell,
    after.settings.trans reports.settings, reports.requests.trans after.requests, reports.channels,
    reports.opportunity, after.scan, after.windows, after.timer, after.job c.other,
    fun d q h => (reports.reference d q).trans (State.offerReference_elsewhere v c j o 1 h),
    fun n raw ok => ?_, fun failed => ⟨?_, ?_⟩⟩
  · subst ok
    have ht : t = (v.referenceReported c j (.ok n raw)).setJob c (some { j with
        pairing := some raw, refreshed := true, phase := .main, slots := 1 }) :=
      State.deliver_reference_ok hj reference (referenceChannel c) n raw
    refine ⟨by rw [ht, State.job_setJob_self], reports.otherJob.trans (after.job c.other), ?_, ?_,
      ?_, ?_, ?_, ?_⟩
    · rw [ht]; exact results.trans hu
    · rw [ht]; exact scan.trans after.scan
    · rw [ht]; exact windows.trans after.windows
    · rw [ht]; exact timer.trans after.timer
    · rw [ht]; exact events
    · rw [reports.reference, State.offerReference_stored, after.timebase, after.profile]
  · have ht : t = v.referenceFailed c j o :=
      State.deliver_reference_failed hj reference (referenceChannel c) failed
    rw [ht, State.referenceFailed_eq, after.timebase]
    have job : (v.referenceReported c j o).job c.other = u.job c.other := by
      rw [State.job, dispatch]
      rfl
    exact (State.finishJob_ends _ c j _ rfl).from_eq job.symm (results.trans hu).symm scan.symm
      timer.symm windows.symm events.symm
  · exact (reports.reference c j.profile).trans (State.offerReference_failed v c j 1 failed)

end Sys2Proof.Machine
end

section
-- One declaration at a time: the stacks of parallel elaboration do not fit under the memory limit.
set_option Elab.async false
/-!
The window monitor (R157 to R162), and the candidate of a cell and its judgement (R100, R101, R119).
-/
namespace Sys2Proof.Machine

/-! ### The class of a value (R159) -/

theorem classify_none_iff {low high h v : Nat} (order : low < high) :
    (classify none low high h v = .below ↔ v < low) ∧
      (classify none low high h v = .above ↔ high < v) := by
  unfold classify
  dsimp only
  split
  · exact ⟨by simp [*], by simp; omega⟩
  · split <;> simp [*]

theorem classify_inside_iff {low high h v : Nat} (order : low < high) (top : v ≤ 16777215) :
    (classify (some .inside) low high h v = .above ↔ high + h < v) ∧
      (classify (some .inside) low high h v = .below ↔ v + h < low) := by
  unfold classify clampedSum
  dsimp only
  change _ ∧ _
  have clamp : min (high + h) Config.maxValue < v ↔ high + h < v := by
    change min (high + h) 16777215 < v ↔ _
    omega
  simp only [clamp]
  split
  · simp [*]; omega
  · split <;> simp [*] <;> omega

theorem classify_above_iff {low high h v : Nat} (order : low < high) :
    (classify (some .above) low high h v = .above ↔ high - h < v) ∧
      (classify (some .above) low high h v = .below ↔ v ≤ high - h ∧ v < low) := by
  unfold classify
  dsimp only
  split
  · simp [*]
  · split <;> simp [*] <;> omega

theorem classify_below_iff {low high h v : Nat} :
    (classify (some .below) low high h v = .below ↔ v < min (low + h) 16777215) ∧
      (classify (some .below) low high h v = .above ↔
        min (low + h) 16777215 ≤ v ∧ high < v) := by
  have clamp : clampedSum low h = min (low + h) 16777215 := rfl
  unfold classify
  dsimp only
  rw [clamp]
  split
  · rename_i inside
    exact ⟨iff_of_true rfl inside, iff_of_false nofun fun h => Nat.not_lt.mpr h.1 inside⟩
  · split <;> simp [*] <;> omega

/-! ### The monitor (R156 to R162) -/

theorem State.monitor_none {s : State} {i : Fin 16} (h : (s.scan.active[i]).window = none)
    (r : Record) : s.monitor i r = (r, s) := by
  unfold State.monitor
  rw [h]

/-- What the monitor makes of a record with window `w`: the entry's window state and the mark. -/
def State.judged (s : State) (i : Fin 16) (r : Record) (w : Window) :
    WindowRecord × Option WindowClass :=
  (s.windows.records[i]).judge w (comparedValue s.scan.active[i] r)

/-- The monitor of an entry with a window, by what its judgement says. -/
structure Monitors (s : State) (i : Fin 16) (r : Record) (p : WindowRecord × Option WindowClass) :
    Prop where
  mark : (s.monitor i r).1.transition = p.2
  own : (s.monitor i r).2.windows.records[i] = p.1
  others : ∀ d : Fin 16, d ≠ i →
    (s.monitor i r).2.windows.records[d] = s.windows.records[d]
  quiet : p.2 = none → (s.monitor i r).2.windows.changeSet = s.windows.changeSet
  joins : ∀ c, p.2 = some c → ∀ d : Fin 16, (s.monitor i r).2.windows.changeSet.getLsbD d.val =
    (s.windows.changeSet.getLsbD d.val || decide (d = i))

theorem State.monitor_some {s : State} {i : Fin 16} {w : Window}
    (h : (s.scan.active[i]).window = some w) (r : Record) :
    s.monitor i r = ({ r with transition := (s.judged i r w).2 }, { s with windows := {
      records := s.windows.records.set i (s.judged i r w).1
      changeSet := if (s.judged i r w).2.isSome then s.windows.changeSet ||| memberMask i
        else s.windows.changeSet } }) := by
  unfold State.monitor
  rw [h]
  rfl

theorem State.monitor_monitors {s : State} {i : Fin 16} {w : Window}
    (h : (s.scan.active[i]).window = some w) (r : Record) : Monitors s i r (s.judged i r w) := by
  have eq := State.monitor_some h r
  exact {
    mark := by rw [eq]
    own := by
      rw [eq]
      exact Vector.getElem_set_self _
    others := fun d hd => by
      rw [eq]
      exact Vector.getElem_set_ne i.isLt d.isLt fun e => hd (Fin.ext e.symm)
    quiet := fun none => by
      rw [eq]
      simp [none]
    joins := fun c marked d => by
      rw [eq]
      simp only [marked, Option.isSome_some, if_true]
      rw [BitVec.getLsbD_or, memberMask_getLsbD] }

section
variable {w : Window} {k : WindowRecord} {v : Nat} {c present : WindowClass}

theorem WindowRecord.judge_absent :
    k.judge w none = ({ k with pending := none, count := 0 }, none) := rfl

theorem WindowRecord.judge_first (unknown : k.state = none)
    (class_of : classify k.state w.low.toNat w.high.toNat w.hysteresis.toNat v = c) :
    k.judge w (some v) = ({ state := some c, pending := none, count := 0 }, none) := by
  unfold WindowRecord.judge
  dsimp only
  rw [class_of, unknown]

theorem WindowRecord.judge_same (state : k.state = some c)
    (class_of : classify k.state w.low.toNat w.high.toNat w.hysteresis.toNat v = c) :
    k.judge w (some v) = ({ k with pending := none, count := 0 }, none) := by
  unfold WindowRecord.judge
  dsimp only
  rw [class_of]
  simp [state]

/-- A value of another class goes on with its run, or qualifies. -/
theorem WindowRecord.judge_other (state : k.state = some present) (differs : c ≠ present)
    (class_of : classify k.state w.low.toNat w.high.toNat w.hysteresis.toNat v = c) :
    k.judge w (some v) =
      if w.qualify.toNat ≤ (if k.pending = some c then k.count + 1 else 1) then
        ({ state := some c, pending := none, count := 0 }, some c)
      else ({ k with pending := some c, count := if k.pending = some c then k.count + 1 else 1 },
        none) := by
  unfold WindowRecord.judge
  dsimp only
  rw [class_of]
  simp [state, differs]
end

/-- Settles O57: the class by the present state, the record by its judgement. -/
theorem windowsQualifyTransitions : Obligations.WindowsQualifyTransitions := by
  refine ⟨fun low high h v order top => ?_, fun e r => ⟨fun ratio sensor q hq => ?_,
    fun ratio sensor absent => ?_, fun raw => ?_⟩, fun s i r none => State.monitor_none none r, ?_⟩
  · obtain ⟨below, above⟩ := classify_none_iff order
    obtain ⟨inside_above, inside_below⟩ := classify_inside_iff (h := h) order top
    obtain ⟨above_above, above_below⟩ := classify_above_iff (h := h) (v := v) order
    obtain ⟨below_below, below_above⟩ := classify_below_iff (low := low) (high := high) (h := h)
      (v := v)
    exact ⟨below, above, inside_above, inside_below, above_above, above_below, below_below,
      below_above⟩
  · exact (if_pos ⟨ratio, sensor⟩).trans (congrArg (Option.map (·.ratio)) hq)
  · exact (if_pos ⟨ratio, sensor⟩).trans (congrArg (Option.map (·.ratio)) absent)
  · refine if_neg fun ⟨ratio, sensor⟩ => ?_
    obtain h | h := raw
    · exact absurd (ratio.symm.trans h) nofun
    · exact Nat.not_lt.mpr h sensor
  · intro s i r w hw k k' set out quiet
    have monitors := State.monitor_monitors hw r
    have silent : ∀ {p}, s.judged i r w = (p, none) → k' = p ∧ quiet := by
      intro p hp
      rw [hp] at monitors
      exact ⟨monitors.own, monitors.mark, monitors.quiet rfl⟩
    refine ⟨monitors.others, fun absent => ?_, fun v hv => ?_⟩
    · refine silent ?_
      rw [State.judged, absent]
      rfl
    · intro class' run
      have judged : s.judged i r w = k.judge w (some v) := by rw [State.judged, hv]
      refine ⟨fun unknown => silent (judged.trans (WindowRecord.judge_first unknown rfl)),
        fun same => silent (judged.trans (WindowRecord.judge_same same rfl)),
        fun known differs short => ?_, fun known differs full => ?_⟩
      all_goals
        obtain ⟨present, state⟩ := Option.ne_none_iff_exists'.mp known
        have other := judged.trans (WindowRecord.judge_other (v := v) state
          (fun e => differs (by rw [state, ← e])) rfl)
      · exact silent (other.trans (if_neg (Nat.not_le.mpr short)))
      · have qualified := other.trans (if_pos full)
        rw [qualified] at monitors
        exact ⟨monitors.own, monitors.mark, monitors.joins class' rfl⟩

/-! ### The candidate (R100) -/

theorem channelOfByte_some {b : Byte} {ch : Fin 10} (h : channelOfByte b = some ch) :
    ch.val = b.toNat := by
  unfold channelOfByte at h
  split at h
  · obtain rfl := Option.some.inj h
    rfl
  · cases h

/-- A due entry that does not belong to the cell gives it no work. -/
theorem State.dueWork_none {s : State} {c : CellId} {i : Fin 16}
    (h : ¬ ∃ ch : Fin 10, ch.val = (s.scan.active[i]).channel.toNat ∧ cellOf ch = c) :
    s.dueWork c i = none := by
  unfold State.dueWork ScanEntry.parameters
  dsimp only
  split
  · rename_i ch p m parameters
    split at parameters
    · rename_i channel _ _
      obtain ⟨rfl, -⟩ := Prod.mk.inj (Option.some.inj parameters)
      exact if_neg fun own => h ⟨_, channelOfByte_some channel, own⟩
    · cases parameters
  · rfl

theorem State.dueWork_some {s : State} {c : CellId} {i : Fin 16} {ch : Fin 10} {p : Fin 4}
    {m : Averaging} (hch : ch.val = (s.scan.active[i]).channel.toNat)
    (hp : p.val = (s.scan.active[i]).profile.toNat) (hm : m.toNat = (s.scan.active[i]).m.toNat)
    (own : cellOf ch = c) : s.dueWork c i = some
      { origin := .scan i s.scan.cycle, channel := ch, profile := p, m := m
        ratio := (s.scan.active[i]).ratio, force := false } := by
  have parameters : (s.scan.active[i]).parameters = some (ch, p, m) := by
    unfold ScanEntry.parameters
    rw [channelOfByte_of_toNat hch.symm, profileOfByte_of_toNat hp.symm,
      averagingOfByte_of_toNat hm.symm]
  unfold State.dueWork
  dsimp only
  rw [parameters]
  exact if_pos own

/-- The oldest request of the cell, when it has one. -/
theorem State.candidate_request {s : State} {c : CellId} {before after : List Request} {r : Request}
    (queue : s.requests.queue = before ++ r :: after)
    (first : ∀ x ∈ before, cellOf x.channel ≠ c) (own : cellOf r.channel = c) :
    s.candidate c = some r.work := by
  have found : s.requests.queue.find? (fun r => decide (cellOf r.channel = c)) = some r :=
    List.find?_eq_some_iff_append.mpr ⟨decide_eq_true own, before, after, queue,
      fun x hx => by simpa using first x hx⟩
  unfold State.candidate
  rw [found]

/-- Without one, the first due entry that gives the cell work. -/
theorem State.candidate_due {s : State} {c : CellId}
    (none : ∀ x ∈ s.requests.queue, cellOf x.channel ≠ c) :
    s.candidate c = s.scan.due.findSome? (s.dueWork c) := by
  have absent : s.requests.queue.find? (fun r => decide (cellOf r.channel = c)) = Option.none :=
    List.find?_eq_none.mpr fun x hx => by simpa using none x hx
  unfold State.candidate
  rw [absent]

/-! ### The judgement (R101) -/

/-- A record is fresh by the five conditions of R119. -/
theorem State.fresh_iff (s : State) (c : CellId) (p : Fin 4) : s.fresh c p = true ↔
    (s.reference c p).valid = true ∧ (s.reference c p).generation = (s.profile p).generation ∧
      (s.profile p).lifetime ≠ 0 ∧
      (s.timebase.counter - (s.reference c p).stamp).toNat < (s.profile p).lifetime ∧
      (s.reference c p).uses < (s.profile p).useLimit := by
  simp only [State.fresh, Bool.and_eq_true, decide_eq_true_eq, and_assoc]

section
variable {s : State} {c : CellId} {w : Work}

theorem State.judge_disabled (h : (s.channel w.channel).enabled = false) :
    s.judge c w = .unavailable :=
  if_pos h

theorem State.judge_faulted (faulted : (s.channel w.channel).health = .faulted)
    (unforced : w.force = false) : s.judge c w = .unavailable := by
  unfold State.judge
  dsimp only
  split
  · rfl
  · exact if_pos ⟨faulted, unforced⟩

/-- With a usable channel, what is left of the judgement. -/
theorem State.judge_of_usable (enabled : (s.channel w.channel).enabled = true)
    (usable : (s.channel w.channel).health ≠ .faulted ∨ w.force = true) : s.judge c w =
      if isReference w.channel = true ∨ w.ratio = false then .converts
      else if s.available (referenceChannel c) = false then .refFailed
      else if s.fresh c w.profile then .paired
      else .held (s.profile w.profile).reportReferences := by
  have not_refused : ¬ ((s.channel w.channel).health = .faulted ∧ w.force = false) := by
    rintro ⟨faulted, unforced⟩
    obtain h | h := usable
    · exact h faulted
    · exact absurd (h.symm.trans unforced) nofun
  unfold State.judge
  dsimp only
  rw [if_neg (by rw [enabled]; decide), if_neg not_refused]

theorem State.available_eq_false {ch : Fin 10} (h : (s.channel ch).enabled = false ∨
    (s.channel ch).health = .faulted) : s.available ch = false := by
  refine Bool.eq_false_iff.mpr fun available => ?_
  obtain ⟨enabled, healthy⟩ := State.available_iff.mp available
  obtain h | h := h
  · exact absurd (enabled.symm.trans h) nofun
  · exact healthy h
end

/-- Settles O58: the candidate from the queue, else from the due list; the judgement in the order of
its checks. -/
theorem candidateAndJudgement : Obligations.CandidateAndJudgement := by
  intro s c
  refine ⟨fun before after r queue first own => State.candidate_request queue first own,
    fun none => ?_, fun w => ?_⟩
  · intro belongs
    rw [State.candidate_due none]
    refine ⟨fun before after i ch p m due first hch hp hm own => ?_, fun others => ?_⟩
    · exact List.findSome?_eq_some_iff.mpr ⟨before, i, after, due,
        State.dueWork_some hch hp hm own, fun x hx => State.dueWork_none (first x hx)⟩
    · exact List.findSome?_eq_none_iff.mpr fun x hx => State.dueWork_none (others x hx)
  · intro r forced pr record ref fresh
    refine ⟨State.judge_disabled, fun _ => State.judge_faulted, fun enabled usable => ?_⟩
    rw [State.judge_of_usable enabled usable]
    refine ⟨fun direct => if_pos (direct.imp_left isReference_eq_true.mpr), fun sensor ratio => ?_⟩
    have paired : ¬ (isReference w.channel = true ∨ w.ratio = false) := by
      rw [isReference_eq_false sensor, ratio]
      decide
    rw [if_neg paired]
    refine ⟨fun refused => if_pos (State.available_eq_false refused), fun enabled' healthy => ?_⟩
    have available : s.available (referenceChannel c) = true :=
      State.available_iff.mpr ⟨enabled', healthy⟩
    rw [if_neg (by rw [available]; decide)]
    exact ⟨fun h => if_pos ((s.fresh_iff c w.profile).mpr h),
      fun h => if_neg fun h' => h ((s.fresh_iff c w.profile).mp h')⟩

end Sys2Proof.Machine
end

section
-- One declaration at a time: the stacks of parallel elaboration do not fit under the memory limit.
set_option Elab.async false
/-!
The dispatch attempt (R99 to R106): what the claim moves, what the dispatch gives, and the attempts
that give no order.
-/
namespace Sys2Proof.Machine

/-! ### The attempt by its conditions -/

section
variable {s : State} {c : CellId} {w : Work}

theorem State.attempt_not_free (h : s.opportunity c = true) (busy : s.idleFree c = false) :
    s.attempt c = s.setOpportunity c false := by
  unfold State.attempt
  rw [if_pos h]
  exact if_neg (by rw [busy]; decide)

theorem State.attempt_no_candidate (h : s.opportunity c = true) (none : s.candidate c = none) :
    s.attempt c = s.setOpportunity c false := by
  have none' : (s.setOpportunity c false).candidate c = Option.none := none
  unfold State.attempt
  rw [if_pos h]
  dsimp only
  rw [none', ite_self]

/-- With a candidate, the attempt of an IDLE and free cell is decided by its claim (R102). -/
theorem State.attempt_candidate (h : s.opportunity c = true) (free : s.idleFree c = true)
    (hw : s.candidate c = some w) : s.attempt c =
      if (s.judge c w).slots ≤ s.freeSlots then
        (s.setOpportunity c false).dispatchWork c w (s.judge c w)
      else s.setOpportunity c false := by
  have hw' : (s.setOpportunity c false).candidate c = some w := hw
  unfold State.attempt
  rw [if_pos h]
  dsimp only
  rw [if_pos free, hw']
  rfl

theorem State.attempt_refused (h : s.opportunity c = true) (hw : s.candidate c = some w)
    (full : s.freeSlots < (s.judge c w).slots) : s.attempt c = s.setOpportunity c false := by
  cases free : s.idleFree c with
  | false => exact State.attempt_not_free h free
  | true => exact (State.attempt_candidate h free hw).trans (if_neg (Nat.not_le.mpr full))

theorem State.attempt_granted (h : s.opportunity c = true) (free : s.idleFree c = true)
    (hw : s.candidate c = some w) (room : (s.judge c w).slots ≤ s.freeSlots) :
    s.attempt c = (s.setOpportunity c false).dispatchWork c w (s.judge c w) :=
  (State.attempt_candidate h free hw).trans (if_pos room)
end

/-! ### The claim (R102, R104) -/

/-- The state with the opportunity used up, the slots claimed, the candidate withdrawn and its job in
the context. -/
def State.claimed (s : State) (c : CellId) (w : Work) (v : Judgement) : State :=
  (((s.setOpportunity c false).reserve v.slots).withdraw c w).setJob c (some (s.jobOf c w v))

/-- What the claim moves. -/
structure Claims (s : State) (c : CellId) (w : Work) (v : Judgement) (x : State) : Prop where
  settings : SettingsKept s x
  cells : x.cells = s.cells
  channels : x.channels = s.channels
  references : x.references = s.references
  windows : x.windows = s.windows
  timer : x.timer = s.timer
  events : x.events = s.events
  timebase : x.timebase = s.timebase
  results : x.results = { s.results with reserved := s.results.reserved + v.slots }
  job : x.job c = some (s.jobOf c w v)
  otherJob : x.job c.other = s.job c.other
  opportunity : x.opportunity c = false
  otherOpportunity : x.opportunity c.other = s.opportunity c.other
  request : ∀ tag, w.origin = .request tag → x.scan = s.scan ∧
    ∀ (before after : List Request) (r : Request), s.requests.queue = before ++ r :: after →
      (∀ y ∈ before, cellOf y.channel ≠ c) → cellOf r.channel = c →
      x.requests = { s.requests with queue := before ++ after }
  scan : ∀ i n, w.origin = .scan i n → x.requests = s.requests ∧
    x.scan = { s.scan with due := s.scan.due.erase i, jobsInFlight := s.scan.jobsInFlight + 1 }

theorem State.withdraw_request {s : State} {c : CellId} {w : Work} {tag : Byte}
    (h : w.origin = .request tag) : s.withdraw c w = { s with requests := { s.requests with
      queue := s.requests.queue.eraseP (fun r => decide (cellOf r.channel = c)) } } := by
  unfold State.withdraw
  rw [h]

theorem State.withdraw_scan {s : State} {c : CellId} {w : Work} {i : Fin 16} {n : BitVec 16}
    (h : w.origin = .scan i n) : s.withdraw c w = s.setScan { s.scan with
      due := s.scan.due.erase i, jobsInFlight := s.scan.jobsInFlight + 1 } := by
  unfold State.withdraw
  rw [h]

/-- The oldest request of the cell leaves the queue, the others keep their order. -/
theorem eraseP_oldest {c : CellId} {before after : List Request} {r : Request}
    (first : ∀ y ∈ before, cellOf y.channel ≠ c) (own : cellOf r.channel = c) :
    (before ++ r :: after).eraseP (fun r => decide (cellOf r.channel = c)) = before ++ after := by
  rw [List.eraseP_append_right _ (fun y hy => by simpa using first y hy),
    List.eraseP_cons_of_pos (p := fun y : Request => decide (cellOf y.channel = c))
      (decide_eq_true own)]

theorem State.claimed_claims (s : State) (c : CellId) (w : Work) (v : Judgement) :
    Claims s c w v (s.claimed c w v) where
  settings := .trans (.setOpportunity s c false) (.claim _ c v.slots w _)
  cells := by simp [State.claimed, State.reserve]
  channels := by simp [State.claimed, State.reserve]
  references := by simp [State.claimed, State.reserve]
  windows := by simp [State.claimed, State.reserve]
  timer := by simp [State.claimed, State.reserve]
  events := by simp [State.claimed, State.reserve]
  timebase := by simp [State.claimed, State.reserve]
  results := by simp [State.claimed, State.reserve]
  job := State.job_setJob_self ..
  otherJob := by simp [State.claimed, State.job, State.reserve]
  opportunity := by simp [State.claimed, State.opportunity, State.reserve]
  otherOpportunity := by simp [State.claimed, State.opportunity, State.reserve]
  request tag ho := by
    unfold State.claimed
    rw [State.withdraw_request ho]
    refine ⟨rfl, fun before after r queue first own => ?_⟩
    change ({ s.requests with queue := s.requests.queue.eraseP _ } : RequestBlock) = _
    rw [queue, eraseP_oldest first own]
  scan i n ho := by
    unfold State.claimed
    rw [State.withdraw_scan ho]
    exact ⟨rfl, rfl⟩

/-! ### The dispatch by its judgement -/

section
variable {s : State} {c : CellId} {w : Work} {v : Judgement}

theorem State.dispatchWork_completes {st : RecordStatus}
    (h : v = .unavailable ∧ st = .unavailable ∨ v = .refFailed ∧ st = .refFailed) :
    (s.setOpportunity c false).dispatchWork c w v =
      (s.claimed c w v).completeAtDispatch c (s.jobOf c w v) st := by
  obtain ⟨rfl, rfl⟩ | ⟨rfl, rfl⟩ := h <;> rfl

/-- A pairing spends one use before the order is given. -/
def State.spent (s : State) (c : CellId) (w : Work) (v : Judgement) : State :=
  if v = .paired then s.spendUse c w.profile else s

/-- The order of a judgement that dispatches: on the reference channel for a held job. -/
def Work.order (w : Work) (c : CellId) (copy : Profile) (v : Judgement) : Order :=
  match v with
  | .held _ => orderOf (referenceChannel c) copy .m1
  | _ => orderOf w.channel copy w.m

theorem State.dispatchWork_gives (unavailable : v ≠ .unavailable) (refFailed : v ≠ .refFailed) :
    (s.setOpportunity c false).dispatchWork c w v =
      ((s.claimed c w v).spent c w v).giveOrder c (w.order c (s.profile w.profile) v) := by
  cases v with
  | unavailable => exact absurd rfl unavailable
  | refFailed => exact absurd rfl refFailed
  | converts => rfl
  | paired => rfl
  | held b => rfl

end

theorem State.spent_frame (x : State) (c : CellId) (w : Work) (v : Judgement) :
    (x.spent c w v).cells = x.cells ∧ (x.spent c w v).dispatch = x.dispatch ∧
    (x.spent c w v).channels = x.channels ∧ (x.spent c w v).requests = x.requests ∧
    (x.spent c w v).results = x.results ∧ (x.spent c w v).scan = x.scan ∧
    (x.spent c w v).windows = x.windows ∧ (x.spent c w v).timer = x.timer ∧
    (x.spent c w v).events = x.events := by
  unfold State.spent
  split <;> simp [State.spendUse]

theorem State.spent_reference (x : State) (c : CellId) (w : Work) (v : Judgement) (d : CellId)
    (q : Fin 4) : (x.spent c w v).reference d q =
      if v = .paired ∧ d = c ∧ q = w.profile then
        { x.reference d q with uses := (x.reference d q).uses + 1 }
      else x.reference d q := by
  unfold State.spent
  by_cases paired : v = .paired
  · rw [if_pos paired, State.spendUse, State.reference_setReference]
    by_cases own : d = c ∧ q = w.profile
    · obtain ⟨rfl, rfl⟩ := own
      rw [if_pos ⟨rfl, rfl⟩, if_pos ⟨paired, rfl, rfl⟩]
    · rw [if_neg own, if_neg (fun h => own h.2)]
  · rw [if_neg paired, if_neg (fun h => paired h.1)]

theorem SettingsKept.spent (x : State) (c : CellId) (w : Work) (v : Judgement) :
    SettingsKept x (x.spent c w v) := by
  unfold State.spent
  split
  · exact .spendUse _ _ _
  · exact .refl _

/-! ### The job of a candidate -/

theorem Judgement.slots_held {v : Judgement} :
    (v = .held true → v.slots = 2) ∧ (v ≠ .held true → v.slots = 1) := by
  cases v with
  | held b => cases b <;> simp [Judgement.slots]
  | _ => simp [Judgement.slots]

theorem State.jobOf_phase (s : State) (c : CellId) (w : Work) (v : Judgement) :
    ((∃ b, v = .held b) → (s.jobOf c w v).phase = .reference) ∧
      ((¬ ∃ b, v = .held b) → (s.jobOf c w v).phase = .main) := by
  cases v with
  | held b => exact ⟨fun _ => rfl, fun h => absurd ⟨b, rfl⟩ h⟩
  | _ => exact ⟨fun ⟨_, h⟩ => (nomatch h), fun _ => rfl⟩

theorem State.jobOf_pairing (s : State) (c : CellId) (w : Work) (v : Judgement) :
    (v = .paired → (s.jobOf c w v).pairing = some (s.reference c w.profile).raw) ∧
      (v ≠ .paired → (s.jobOf c w v).pairing = none) := by
  cases v with
  | paired => exact ⟨fun _ => rfl, fun h => absurd rfl h⟩
  | _ => exact ⟨nofun, fun _ => rfl⟩

theorem State.jobOf_ratio (s : State) (c : CellId) (w : Work) (v : Judgement) :
    (s.jobOf c w v).ratio = true ↔ w.ratio = true ∧ w.channel.val < 8 := by
  have sensor : isReference w.channel = false ↔ w.channel.val < 8 := by
    rw [← Bool.not_eq_true, isReference_eq_true, Nat.not_le]
  change (w.ratio && !(isReference w.channel)) = true ↔ _
  rw [Bool.and_eq_true, Bool.not_eq_true', sensor]

/-- Settles O59: the claim by `Claims`, then the order by the judgement. -/
theorem attemptGivesTheOrder : Obligations.AttemptGivesTheOrder := by
  intro s c w h idle none hw room unavailable refFailed held copy order
  have free : s.idleFree c = true := (State.idleFree_iff _ _).mpr ⟨idle, none⟩
  have claims := s.claimed_claims c w (s.judge c w)
  obtain ⟨cells, dispatch, channels, requests, results, scan, windows, timer, events⟩ :=
    (s.claimed c w (s.judge c w)).spent_frame c w (s.judge c w)
  have given : s.attempt c = _ :=
    (State.attempt_granted h free hw room).trans (State.dispatchWork_gives unavailable refFailed)
  have cell : ∀ d, ((s.claimed c w (s.judge c w)).spent c w (s.judge c w)).cell d = s.cell d :=
    State.cell_eq_of_cells (cells.trans claims.cells)
  have takes : ∀ o, w.order c copy (s.judge c w) = o → TakesOrder (s.cell c) o
      ((((s.claimed c w (s.judge c w)).spent c w (s.judge c w)).giveOrder c
        (w.order c copy (s.judge c w))).cell c) := by
    rintro _ rfl
    rw [State.giveOrder_cell_self, cell]
    exact Cell.take_takes _ _
  obtain ⟨two, one⟩ := Judgement.slots_held (v := s.judge c w)
  obtain ⟨reference, main⟩ := s.jobOf_phase c w (s.judge c w)
  obtain ⟨paired, unpaired⟩ := s.jobOf_pairing c w (s.judge c w)
  have job : ∀ d, ((s.claimed c w (s.judge c w)).spent c w (s.judge c w)).job d =
      (s.claimed c w (s.judge c w)).job d := State.job_eq_of_dispatch dispatch
  have opportunity : ∀ d, ((s.claimed c w (s.judge c w)).spent c w (s.judge c w)).opportunity d =
      (s.claimed c w (s.judge c w)).opportunity d := fun d => by rw [State.opportunity, dispatch]; rfl
  refine ⟨_, s.jobOf c w (s.judge c w), congrArg Host.Outcome.next given,
    (job c).trans claims.job, (job c.other).trans claims.otherJob, rfl, rfl, rfl, rfl, rfl, rfl,
    s.jobOf_ratio c w _, rfl, reference, main, two, one, paired, unpaired, rfl,
    (opportunity c).trans claims.opportunity, (opportunity c.other).trans claims.otherOpportunity,
    fun ⟨b, is_held⟩ => ?_, fun not_held => ?_, ?_, results.trans claims.results,
    fun tag ho => ?_, fun i n ho => ?_, fun d q => ?_,
    (claims.settings.trans (.spent _ _ _ _)).trans (.setCell _ _ _), channels.trans claims.channels,
    windows.trans claims.windows, timer.trans claims.timer, events.trans claims.events⟩
  · have onReference := takes (order (referenceChannel c) .m1) (by rw [is_held]; rfl)
    cases c <;> exact onReference
  · refine takes (order w.channel w.m) ?_
    cases hv : s.judge c w with
    | held b => exact absurd ⟨b, hv⟩ not_held
    | _ => rfl
  · rw [State.giveOrder_cell_other, cell]
  · obtain ⟨scanStays, queue⟩ := claims.request tag ho
    exact ⟨scan.trans scanStays, fun before after r hq first own =>
      requests.trans (queue before after r hq first own)⟩
  · obtain ⟨requestsStay, due⟩ := claims.scan i n ho
    exact ⟨requests.trans requestsStay, scan.trans due⟩
  · have same : (s.claimed c w (s.judge c w)).reference d q = s.reference d q := by
      rw [State.reference, claims.references]
      rfl
    refine (State.spent_reference _ c w (s.judge c w) d q).trans ?_
    rw [same]

/-- Settles O60: the attempts that only use their opportunity up, and the candidate that ends at
once. -/
theorem attemptWithoutAnOrder : Obligations.AttemptWithoutAnOrder := by
  intro s c h
  refine ⟨fun busy => congrArg Host.Outcome.next (State.attempt_not_free h ?_),
    fun none => congrArg Host.Outcome.next (State.attempt_no_candidate h none),
    fun w hw => ⟨fun full => congrArg Host.Outcome.next (State.attempt_refused h hw full),
      fun status idle none room refused => ?_⟩⟩
  · refine Bool.eq_false_iff.mpr fun free => ?_
    obtain ⟨idle, none⟩ := (State.idleFree_iff _ _).mp free
    exact busy.elim (· idle) (· none)
  · have free : s.idleFree c = true := (State.idleFree_iff _ _).mpr ⟨idle, none⟩
    have one : (s.judge c w).slots = 1 := by
      obtain ⟨hv, -⟩ | ⟨hv, -⟩ := refused <;> rw [hv] <;> rfl
    have claims := s.claimed_claims c w (s.judge c w)
    have given := (State.attempt_granted h free hw (by rw [one]; exact room)).trans
      (State.dispatchWork_completes refused)
    have cell : ∀ d, (s.claimed c w (s.judge c w)).cell d = s.cell d :=
      State.cell_eq_of_cells claims.cells
    have done := State.completeAtDispatch_completes (s := s.claimed c w (s.judge c w)) (c := c)
      (j := s.jobOf c w (s.judge c w)) status (by rw [cell, idle])
    have results := claims.results
    rw [one] at results
    exact ⟨_, s.claimed c w (s.judge c w), s.jobOf c w (s.judge c w),
      congrArg Host.Outcome.next given, results, claims.request, claims.scan, claims.windows,
      claims.timer, claims.events, claims.otherJob, rfl, rfl, rfl, rfl, claims.timebase ▸ done.ends,
      done.requests, claims.settings.trans done.settings,
      (State.cell_eq_of_cells done.cells c).trans (cell c),
      (State.cell_eq_of_cells done.cells c.other).trans (cell c.other), done.opportunity,
      done.otherOpportunity.trans claims.otherOpportunity, done.channels.trans claims.channels,
      done.references.trans claims.references⟩

end Sys2Proof.Machine
end

section
-- One declaration at a time: the stacks of parallel elaboration do not fit under the memory limit.
set_option Elab.async false
/-!
Time and cycles: CLKIN periods and ticks (R169, R170, R174, R176), the scan timer's expiry and the
TRIG edge (R174, R176), the cycle-start event (R68 to R71) and the due list (R69).
-/
namespace Sys2Proof.Machine

/-! ### The due list (R69) -/

theorem ScanEntry.parameters_eq_some {e : ScanEntry} {ch : Fin 10} {p : Fin 4} {m : Averaging}
    (h : e.parameters = some (ch, p, m)) : ch.val = e.channel.toNat := by
  unfold ScanEntry.parameters at h
  split at h
  · rename_i channel _ _
    obtain ⟨rfl, -⟩ := Prod.mk.inj (Option.some.inj h)
    exact channelOfByte_some channel
  · cases h

/-- An enabled entry in range has parameters (R51, R57). -/
theorem ScanEntry.parameters_of_range {e : ScanEntry} (enabled : e.enabled = true)
    (ok : e.failedCheck = none) : ∃ ch p m, e.parameters = some (ch, p, m) := by
  obtain ⟨-, ranges⟩ | ⟨n, fails, -⟩ := ScanEntry.failedCheck_first enabled
  · obtain ⟨ch, hch⟩ := channelOfByte_isSome (ranges 1)
    obtain ⟨p, hp⟩ := profileOfByte_isSome (ranges 2)
    obtain ⟨m, hm⟩ := Option.isSome_iff_exists.mp ((averagingOfByte_isSome_iff e.m).mpr (ranges 3))
    refine ⟨ch, p, m, ?_⟩
    unfold ScanEntry.parameters
    rw [hch, hp, hm]
  · cases ok.symm.trans fails

theorem State.entryDue_of_parameters {s : State} {n : BitVec 16} {i : Fin 16} {ch : Fin 10}
    {p : Fin 4} {m : Averaging} (h : (s.scan.active[i]).parameters = some (ch, p, m)) :
    s.entryDue n i = true ↔ (s.scan.active[i]).enabled = true ∧
      n.toNat % (s.scan.active[i]).every.toNat = (s.scan.active[i]).phase.toNat ∧
      (s.channel ch).enabled = true ∧ (s.channel ch).health ≠ .faulted ∧
      (s.cell (cellOf ch)).state ≠ .down := by
  unfold State.entryDue
  dsimp only
  rw [h]
  simp only [Bool.and_eq_true, decide_eq_true_eq, State.available_iff, and_assoc]

theorem State.entryDue_without {s : State} {n : BitVec 16} {i : Fin 16}
    (h : (s.scan.active[i]).parameters = none) : s.entryDue n i = false := by
  unfold State.entryDue
  dsimp only
  rw [h]

/-- Settles O48: the filter of the sixteen indexes, an enabled entry by its channel. -/
theorem dueListHoldsTheDueEntries : Obligations.DueListHoldsTheDueEntries := by
  intro s n ranges
  refine ⟨s.dueList_sorted n, fun i => ?_⟩
  have member : i ∈ s.dueList n ↔ s.entryDue n i = true := by simp [State.dueList]
  rw [member]
  constructor
  · intro due
    cases h : (s.scan.active[i]).parameters with
    | none => exact absurd (State.entryDue_without h) (by rw [due]; decide)
    | some q =>
      obtain ⟨ch, p, m⟩ := q
      obtain ⟨enabled, phase, usable⟩ := (State.entryDue_of_parameters h).mp due
      exact ⟨enabled, phase, ch, ScanEntry.parameters_eq_some h, usable⟩
  · rintro ⟨enabled, phase, ch, hch, usable⟩
    obtain ⟨ch', p, m, h⟩ := ScanEntry.parameters_of_range enabled (ranges.active i)
    obtain rfl : ch' = ch := Fin.ext ((ScanEntry.parameters_eq_some h).trans hch.symm)
    exact (State.entryDue_of_parameters h).mpr ⟨enabled, phase, usable⟩

/-! ### The cycle-start event (R68 to R71) -/

theorem State.cycleStartEvent_waiting {s : State} (h : s.scan.state = .waiting) :
    s.cycleStartEvent = s.applyPending.startCycle := by
  unfold State.cycleStartEvent
  rw [h]

theorem State.cycleStartEvent_counts {s : State} (h : s.scan.state = .cycle) :
    s.cycleStartEvent = s.countOverrun := by
  unfold State.cycleStartEvent
  rw [h]

theorem State.cycleStartEvent_ignored {s : State}
    (h : s.scan.state = .stopping ∨ s.scan.state = .stopped) : s.cycleStartEvent = s := by
  unfold State.cycleStartEvent
  obtain h | h := h <;> rw [h]

/-- The overrun count stops at 255 (R70). -/
theorem overrun_counts (n : BitVec 8) :
    (if n = 255 then (255 : BitVec 8) else n + 1).toNat = min 255 (n.toNat + 1) := by
  split
  · rename_i full
    rw [full]
    rfl
  · rename_i room
    have h : n.toNat ≠ 255 := fun e => room (BitVec.eq_of_toNat_eq e)
    have lt := n.isLt
    rw [BitVec.toNat_add, show (1 : BitVec 8).toNat = 1 from rfl]
    omega

/-- In WAITING no scan job is in flight, no entry is due and no mark is set. -/
theorem ScanConsistent.waiting_registers {s : State} (h : ScanConsistent s)
    (hs : s.scan.state = .waiting) :
    s.scan.due = [] ∧ s.scan.single = false ∧ s.scan.jobsInFlight = 0 := by
  refine ⟨h.due (by simp [hs]), ?_, h.quiet (.inr hs)⟩
  by_contra hn
  have := h.single (by simpa using hn)
  simp [hs] at this

/-- A cycle with nothing due, from a scan in WAITING: only the cycle number moves. -/
theorem State.startCycle_waiting_empty {u : State} (hs : u.scan.state = .waiting)
    (due : u.scan.due = []) (single : u.scan.single = false) (quiet : u.scan.jobsInFlight = 0)
    (empty : u.dueList (u.scan.cycle + 1) = []) : u.startCycle =
      (u.setScan { u.scan with cycle := u.scan.cycle + 1 }).offerBoth.raise .scanDone := by
  have registers : ({ u.scan with
      cycle := u.scan.cycle + 1, due := [], state := .waiting } : Scan) =
      { u.scan with cycle := u.scan.cycle + 1 } := by
    rw [← due, ← hs]
  rw [State.startCycle_empty empty, State.offerBoth_setScan, State.completionCheck_cycle]
  · simp only [State.setScan_scan]
    rw [registers]
    rfl
  · rfl
  · rfl
  · exact quiet
  · exact single

/-! ### SCAN_TIMER_EXPIRY and TRIG_EDGE -/

theorem ScanTimer.reload_none {t : ScanTimer} (h : t.pendingPeriod = none) :
    t.reload = { t with remaining := t.period.toNat } := by
  cases t
  cases h
  rfl

theorem ScanTimer.reload_some {t : ScanTimer} {p : BitVec 16} (h : t.pendingPeriod = some p) :
    t.reload = { t with remaining := p.toNat, period := p, pendingPeriod := none } := by
  unfold ScanTimer.reload
  rw [h]
  rfl

theorem State.scanTimerExpiry_due {s : State} (running : s.timer.running = true)
    (ended : s.timer.remaining = 0) :
    s.scanTimerExpiry = ({ s with timer := s.timer.reload } : State).cycleStartEvent :=
  if_pos (by simp [State.timerDue, running, ended])

theorem State.trigEdge_due {s : State} (h : s.trig.confirming = 2) : s.trigEdge =
    if s.scan.source = .pin ∧ edgeFrom s.trig.filtered = s.scan.edge ∧ s.scan.state ≠ .stopped then
      ({ s with trig := { s.trig with
        filtered := s.trig.filtered.flip, confirming := 0 } } : State).cycleStartEvent
    else { s with trig := { s.trig with
      filtered := s.trig.filtered.flip, confirming := 0 } } :=
  if_pos (by simp [State.edgeDue, h])

theorem edgeFrom_eq (l : Level) : edgeFrom l = if l = .low then .rising else .falling := by
  cases l <;> rfl

/-- Settles O47: the two arrivals at their end values, and the event by the scan state. -/
theorem cycleStartsByTimerAndEdge : Obligations.CycleStartsByTimerAndEdge := by
  refine ⟨fun s => ⟨fun running ended => ?_, fun confirmed => ?_⟩, fun s consistent => ?_⟩
  · have expiry := State.scanTimerExpiry_due running ended
    refine ⟨fun none => ?_, fun p pending => ?_⟩
    · rw [ScanTimer.reload_none none] at expiry
      exact congrArg Host.Outcome.next expiry
    · rw [ScanTimer.reload_some pending] at expiry
      exact congrArg Host.Outcome.next expiry
  · intro u edge
    have taken := State.trigEdge_due confirmed
    have from_level : edgeFrom s.trig.filtered = edge := edgeFrom_eq _
    refine ⟨fun pin selected moving => ?_, fun ignored => ?_⟩
    · exact congrArg Host.Outcome.next
        (taken.trans (if_pos ⟨pin, from_level.trans selected.symm, moving⟩))
    · refine congrArg Host.Outcome.next (taken.trans (if_neg ?_))
      rintro ⟨pin, selected, moving⟩
      obtain timer | other | stopped := ignored
      · exact absurd (pin.symm.trans timer) nofun
      · exact other (selected.symm.trans from_level)
      · exact moving stopped
  · refine ⟨fun waiting => ?_, fun cycle => ?_, State.cycleStartEvent_ignored⟩
    · intro u n
      obtain ⟨due, single, quiet⟩ := consistent.waiting_registers waiting
      have event : s.cycleStartEvent = u.startCycle := State.cycleStartEvent_waiting waiting
      have registers : u.scan.state = .waiting ∧ u.scan.due = [] ∧ u.scan.single = false ∧
          u.scan.jobsInFlight = 0 ∧ u.scan.cycle = s.scan.cycle := by
        change (if s.scan.commitPending then s.applyCommit else s).scan.state = _ ∧ _
        dsimp only [u]
        split
        · exact ⟨waiting, due, single, quiet, rfl⟩
        · exact ⟨waiting, due, single, quiet, rfl⟩
      obtain ⟨waiting', due', single', quiet', number⟩ := registers
      have next : u.scan.cycle + 1 = n := by rw [number]
      rw [event, ← next]
      exact ⟨State.startCycle_due, State.startCycle_waiting_empty waiting' due' single' quiet'⟩
    · exact ⟨_, overrun_counts s.scan.overrun, State.cycleStartEvent_counts cycle⟩

/-! ### Ticks -/

theorem State.takeDue_none {s : State} (h : s.anyDue = false) : s.takeDue = s :=
  if_neg (by rw [h]; decide)

/-- What is due is taken in some order, until nothing is due (log 3). -/
theorem State.takeDue_some {s : State} (h : Arrivable s) (due : s.anyDue = true) :
    ∃ order : List Arrival,
      s.takeDue = ({ s with freeIndex := s.freeIndex + 1 } : State).takeArrivals order ∧
      (({ s with freeIndex := s.freeIndex + 1 } : State).takeArrivals order).anyDue = false ∧
      (({ s with freeIndex := s.freeIndex + 1 } : State).takeArrivals order).resetHeld = false := by
  obtain ⟨order, taken⟩ := s.takeDue_order due
  have counted : Arrivable { s with freeIndex := s.freeIndex + 1 } :=
    ⟨h.awake, h.divider, h.period, h.pendingPeriod, h.profiles, h.copies, h.orders⟩
  exact ⟨order, taken, taken ▸ State.takeDue_leaves_nothing_due s h,
    (State.takeArrivals_keeps Arrivable State.takeArrival_arrivable order counted).awake⟩

theorem State.timebaseTick_awake {s : State} (awake : s.resetHeld = false) (l : Level) :
    s.timebaseTick l = s.takeDue.countTick l :=
  if_neg (by rw [awake]; decide)

theorem Trig.sample_first {t : Trig} (l : Level) (first : t.firstSample = true) :
    t.sample l = { filtered := l, confirming := 0, firstSample := false, pin := l } :=
  if_pos first

theorem Trig.sample_later {t : Trig} (l : Level) (later : t.firstSample = false) :
    t.sample l = { t with
      confirming := if l = t.filtered then 0 else min 2 (t.confirming + 1), pin := l } :=
  if_neg (by rw [later]; decide)

/-- The TRIG detector after a sample. -/
theorem Trig.sample_facts (t : Trig) (l : Level) :
    (t.sample l).pin = l ∧ (t.sample l).firstSample = false ∧
    (t.firstSample = true → (t.sample l).filtered = l ∧ (t.sample l).confirming = 0) ∧
    (t.firstSample = false → (t.sample l).filtered = t.filtered) ∧
    (t.firstSample = false → l = t.filtered → (t.sample l).confirming = 0) ∧
    (t.firstSample = false → l ≠ t.filtered → t.confirming ≤ 1 →
      (t.sample l).confirming = t.confirming + 1) := by
  cases first : t.firstSample with
  | true =>
    rw [Trig.sample_first l first]
    exact ⟨rfl, rfl, fun _ => ⟨rfl, rfl⟩, nofun, nofun, nofun⟩
  | false =>
    rw [Trig.sample_later l first]
    refine ⟨rfl, first, nofun, fun _ => rfl, fun _ same => if_pos same, fun _ differs room => ?_⟩
    exact (if_neg differs).trans (Nat.min_eq_right (Nat.succ_le_succ room))

/-- Settles O46: the tick with nothing left due, the tick that first takes what is due, and the
interval tick at its end value. -/
theorem ticksCount : Obligations.TicksCount := by
  intro s
  refine ⟨fun held l => congrArg Host.Outcome.next (if_pos held), fun awake quiet l => ?_,
    fun awake ranges due l => ?_, fun held => ?_, fun awake full => ?_⟩
  · have tick : s.timebaseTick l = s.countTick l := by
      rw [State.timebaseTick_awake awake, State.takeDue_none quiet]
    refine ⟨_, congrArg Host.Outcome.next tick, rfl, fun c => ?_, fun c => ?_,
      s.trig.sample_facts l⟩
    · rw [State.countTick_cell]
      rfl
    · rw [State.countTick_cell]
      refine ⟨fun stopped => ?_, fun n up => ?_, fun n down => ?_⟩
      · exact congrArg PhaseTimer.tick stopped
      · exact congrArg PhaseTimer.tick up
      · exact congrArg PhaseTimer.tick down
  · obtain ⟨order, taken, none_due, awake'⟩ := State.takeDue_some (ranges.arrivable awake) due
    refine ⟨order, none_due, congrArg Host.Outcome.next ?_⟩
    rw [State.timebaseTick_awake awake, State.timebaseTick_awake awake', taken,
      State.takeDue_none none_due]
  · exact congrArg Host.Outcome.next (if_neg (by simp [State.intervalDue, held]))
  · exact congrArg Host.Outcome.next (if_pos (by simp [State.intervalDue, awake, full]))

/-! ### CLKIN periods -/

theorem step_of_idle {s : State} (h : s.pending = []) : step s = .next s.idle := by
  unfold step
  rw [h]

theorem State.idle_of_wire {s : State} {e : WireEvent} {rest : List WireEvent}
    (h : s.wire = e :: rest) : s.idle = ({ s with wire := rest } : State).takeWire e := by
  unfold State.idle
  rw [h]

/-- A step that is one CLKIN period: on an empty wire, or for the wire's own period. -/
theorem step_of_period {s : State} {rest : List WireEvent} (h : s.pending = [])
    (period : (s.wire = [] ∧ rest = []) ∨ s.wire = .period :: rest) :
    step s = .next ({ s with wire := rest } : State).clkin := by
  rw [step_of_idle h]
  obtain ⟨empty, rfl⟩ | next := period
  · have same : ({ s with wire := [] } : State) = s := by rw [← empty]
    unfold State.idle
    rw [empty, same]
  · rw [State.idle_of_wire next]
    rfl

theorem State.clkin_counts {s : State} (awake : s.resetHeld = false)
    (more : s.timebase.prescalerPhase + 1 < s.timebase.prescale.toNat) : s.clkin =
      { s.takeDue with timebase := { s.takeDue.timebase with
        prescalerPhase := s.takeDue.timebase.prescalerPhase + 1 } } := by
  unfold State.clkin
  rw [if_neg (by rw [awake]; decide), if_neg (Nat.not_le.mpr more)]

theorem State.clkin_ticks {s : State} (awake : s.resetHeld = false)
    (full : s.timebase.prescale.toNat ≤ s.timebase.prescalerPhase + 1) :
    s.clkin = s.timebaseTick s.trig.pin := by
  unfold State.clkin
  rw [if_neg (by rw [awake]; decide), if_pos full]

/-- Settles O2: the wire's next event, and the CLKIN period by the prescaler phase. -/
theorem idleStepCountsClkin : Obligations.IdleStepCountsClkin := by
  intro s rest empty u
  refine ⟨fun l next => ?_, fun next => ?_, fun c next => ?_, fun period => ?_⟩
  · rw [step_of_idle empty, State.idle_of_wire next]
    rfl
  · rw [step_of_idle empty, State.idle_of_wire next]
    rfl
  · rw [step_of_idle empty, State.idle_of_wire next]
    change Host.Outcome.next { u with pending := s.pending ++ [c] } = _
    rw [empty]
    rfl
  · have period' := step_of_period empty period
    refine ⟨fun held => ?_, fun awake more => ⟨fun quiet => ?_, fun due ranges => ?_⟩,
      fun awake full => ?_⟩
    · rw [period']
      exact congrArg Host.Outcome.next (if_pos held)
    · rw [period', State.clkin_counts (s := u) awake more, State.takeDue_none (s := u) quiet]
    · have arrivable : Arrivable u := ⟨awake, ranges.divider, ranges.period, ranges.pendingPeriod,
        ranges.profiles, ranges.copies, ranges.orders⟩
      obtain ⟨order, taken, none_due, -⟩ := State.takeDue_some arrivable due
      refine ⟨order, none_due, ?_⟩
      have phase := (State.takeArrivals_pins { u with freeIndex := s.freeIndex + 1 } order).1
      rw [period', State.clkin_counts (s := u) awake more, taken, phase]
    · rw [period', State.clkin_ticks (s := u) awake full]
      rfl

end Sys2Proof.Machine
end

section
-- One declaration at a time: the stacks of parallel elaboration do not fit under the memory limit.
set_option Elab.async false
/-!
The output pins (R2, R182, R187), the resets (R198, R199), and the command decoder (R195, R200).
-/
namespace Sys2Proof.Machine

/-! ### The output pins -/

theorem State.resultActive_iff (s : State) :
    s.resultActive = true ↔ s.results.watermark ≤ s.results.records.length :=
  decide_eq_true_iff

theorem Cell.capacitorPin_cases (k : Cell) :
    (k.state = .resting ∨ k.state = .idle → k.capacitorPin = .low) ∧
    (k.state = .precharging → k.capacitorPin = .high) ∧
    (k.state = .down ∨ k.state = .starting ∨ k.state = .measuring ∨ k.state = .discharging →
      k.capacitorPin = .floats) := by
  unfold Cell.capacitorPin
  cases k.state <;> simp

/-- The selected channel pin drives the opposite of the level while the cell oscillates (R2). -/
theorem Cell.selectedPin_cases (k : Cell) :
    (k.state = .starting ∨ k.state = .measuring →
      (k.level = .low → k.selectedPin = .high) ∧ (k.level = .high → k.selectedPin = .low)) ∧
    (k.state = .discharging → k.selectedPin = .low) ∧
    (k.state ≠ .starting → k.state ≠ .measuring → k.state ≠ .discharging →
      k.selectedPin = .floats) := by
  unfold Cell.selectedPin
  cases k.state <;> cases k.level <;> simp

theorem State.channelPin_selected {s : State} {ch : Fin 10} {o : Order}
    (ho : (s.cell (cellOf ch)).order = some o) (hc : o.channel = ch) :
    s.channelPin ch = (s.cell (cellOf ch)).selectedPin := by
  unfold State.channelPin
  dsimp only
  rw [ho]
  exact if_pos hc

theorem State.channelPin_unselected {s : State} {ch : Fin 10}
    (h : ∀ o, (s.cell (cellOf ch)).order = some o → o.channel ≠ ch) :
    s.channelPin ch = .floats := by
  unfold State.channelPin
  dsimp only
  cases ho : (s.cell (cellOf ch)).order with
  | none => rfl
  | some o => exact if_neg (h o ho)

theorem State.sdo_cases (s : State) :
    (s.port.frame = .noFrame → s.sdo = .floats) ∧
    (s.port.frame = .header ∨ s.port.frame = .write → s.sdo = .low) ∧
    (s.port.frame = .read → s.port.sdo = .low → s.sdo = .low) ∧
    (s.port.frame = .read → s.port.sdo = .high → s.sdo = .high) := by
  unfold State.sdo
  cases s.port.frame <;> cases s.port.sdo <;> simp [driveOf]

/-- Settles O39: IRQ# event by event, and each pin by the state of its cell or of the port. -/
theorem irqLowIffActiveAndEnabled : Obligations.IrqLowIffActiveAndEnabled := by
  intro s
  refine ⟨s.irqLow_iff_exists_event, s.activeEvents_latched, ?_, ?_, s.raised_raise,
    fun c => (s.cell c).capacitorPin_cases, fun ch => ⟨State.channelPin_unselected,
      fun o ho hc => ?_⟩, s.sdo_cases⟩
  · rw [s.activeEvents_result, s.resultActive_iff]
  · rw [s.activeEvents_window]
    exact s.windowActive_iff
  · rw [State.channelPin_selected ho hc]
    exact (s.cell (cellOf ch)).selectedPin_cases

/-! ### The resets -/

/-- Settles O40: SOFT_RESET, register by register. -/
theorem softResetResetsEveryBlock : Obligations.SoftResetResetsEveryBlock := by
  intro s at_command
  refine ⟨_, exec_of_reply (rule := softReset) rfl rfl at_command rfl, fun c => ?_, rfl, rfl,
    fun ch => Vector.getElem_ofFn ch.isLt, rfl, rfl, fun c p => ?_, rfl, rfl, rfl, rfl, rfl, rfl,
    rfl, rfl, rfl⟩
  · cases c <;> exact ⟨rfl, rfl, rfl⟩
  · cases c <;> exact Vector.getElem_replicate p.isLt

/-- Settles O45: DEVICE_RESET, register by register. -/
theorem deviceResetSetsEveryBlock : Obligations.DeviceResetSetsEveryBlock := by
  intro s entry
  refine ⟨⟨_, rfl, fun c => ?_, fun q => Vector.getElem_replicate q.isLt, rfl,
    fun ch => Vector.getElem_replicate ch.isLt, rfl,
    fun i => ⟨Vector.getElem_replicate i.isLt, Vector.getElem_replicate i.isLt⟩, rfl, rfl,
    fun c q => ?_, rfl, fun i => Vector.getElem_replicate i.isLt, rfl, rfl, rfl, rfl, rfl, rfl, rfl,
    rfl, rfl, rfl⟩, rfl⟩
  · cases c <;> exact ⟨rfl, rfl, rfl⟩
  · cases c <;> exact Vector.getElem_replicate q.isLt

/-! ### The command decoder -/

/-- A byte that completes at the command location is decoded (R195). -/
theorem exec_registerWrite_at_command {s : State} (h : s.atCommand = true) (b : Byte) :
    exec (.registerWrite b) s = .next (s.takeCommand b (commandOf b)) := by
  simp only [State.atCommand, Bool.and_eq_true, decide_eq_true_eq] at h
  obtain ⟨⟨write, whole⟩, there⟩ := h
  refine congrArg Host.Outcome.next ?_
  rw [State.writeByte, if_pos ⟨write, whole⟩, if_pos there]
  rfl

theorem State.takeCommand_elsewhere {s : State} (h : s.atCommand = false) (code : Byte)
    (rule : State → Reply) : s.takeCommand code rule = s :=
  if_neg (by rw [h]; decide)

/-- A code that is not in the summary is refused (R195, R200). -/
theorem commandOf_bad {b : Byte} (h : b ∉ Config.commandCodes) : commandOf b = badCode b := by
  have differs : ∀ c ∈ Config.commandCodes, b.toNat ≠ c.toNat := fun c hc e =>
    h (BitVec.eq_of_toNat_eq e ▸ hc)
  simp only [Config.commandCodes, List.forall_mem_cons] at differs
  unfold commandOf
  split <;> simp_all

theorem badCommand_reports {s : State} (h : s.atCommand = true) (b : Byte) :
    s.takeCommand b (badCode b) = s.reported b .badCommand b 0 0 0 :=
  if_pos h

/-- The command summary: each code with its row (R200). -/
def commandSummary : List (Byte × Instr) :=
  [(0x10, .cellEnable), (0x11, .cellDisable), (0x18, .channelSet), (0x19, .channelClearFault),
   (0x1A, .faultThreshold), (0x20, .timebaseSet), (0x28, .scanConfig), (0x29, .scanStart),
   (0x2A, .scanOnce), (0x2B, .scanStop), (0x30, .entryWrite), (0x31, .entryRead),
   (0x32, .tableRevert), (0x33, .tableCommit), (0x34, .tableAbandon), (0x38, .profileWrite),
   (0x39, .profileRead), (0x3A, .referenceInvalidate), (0x40, .requestSubmit),
   (0x41, .requestCancel), (0x42, .requestFlush), (0x48, .resultPop), (0x49, .resultFlush),
   (0x4A, .resultWatermark), (0x50, .windowAck), (0x51, .eventAck), (0x5A, .softReset)]

theorem commandCode_of_summary : ∀ p ∈ commandSummary, commandCode p.2 = some p.1 := by decide

theorem commandSummary_codes : commandSummary.map Prod.fst = Config.commandCodes := rfl

/-- Settles O41: the codes of the summary through `commandCode`, every other one refused. -/
theorem codesNameCommands : Obligations.CodesNameCommands := by
  intro s
  change (_ → ∀ p ∈ commandSummary, _) ∧ (_ → ∀ b, b ∉ commandSummary.map Prod.fst → _) ∧
    (_ → ∀ p ∈ commandSummary, _)
  refine ⟨fun at_command p hp => ?_, fun at_command b other => ?_, fun elsewhere p hp => ?_⟩
  · rw [exec_registerWrite_at_command at_command, exec_commandCode (commandCode_of_summary p hp)]
  · rw [commandSummary_codes] at other
    have row : exec (.badCommand b) s = .next (s.takeCommand b (badCode b)) :=
      congrArg Host.Outcome.next (if_neg (by simpa using other))
    rw [row, exec_registerWrite_at_command at_command, commandOf_bad other,
      badCommand_reports at_command]
    exact ⟨rfl, rfl⟩
  · rw [exec_commandCode (commandCode_of_summary p hp), State.takeCommand_elsewhere elsewhere]

end Sys2Proof.Machine
end

section
-- One declaration at a time: the stacks of parallel elaboration do not fit under the memory limit.
set_option Elab.async false
/-!
The register window: what a byte written reaches (R30, R181, R188, R191), and how the address pointer
moves on (R189).
-/
namespace Sys2Proof.Machine

/-! ### A storage location, written and read -/

theorem vector_write_read {n : Nat} (v : Vector Byte n) (b : Byte) (i j : Nat) (h : i < n) :
    (v.setIfInBounds i b)[j]?.getD 0 = if i = j then b else v[j]?.getD 0 := by
  rw [Vector.getElem?_setIfInBounds]
  by_cases same : i = j
  · simp [same, same ▸ h]
  · simp [same]

/-! ### The locations by their regions (R191) -/

section
variable (s : State) {q : Nat}

theorem State.windowRead_status (h : q < 10) : s.windowRead q = s.statusByte q := if_pos h

theorem State.windowRead_latch (h : 12 ≤ q ∧ q < 15) :
    s.windowRead q = byteOf s.timebase.latch.toNat (q - 11) := by
  unfold State.windowRead
  rw [if_neg (by omega), if_neg (by omega), if_pos h]

theorem State.windowRead_arg (h : 17 ≤ q ∧ q < 25) :
    s.windowRead q = s.command.args[q - 17]?.getD 0 := by
  unfold State.windowRead
  iterate 5 rw [if_neg (by omega)]
  rw [if_pos h]

theorem State.windowRead_result (h : 26 ≤ q ∧ q < 30) :
    s.windowRead q = s.command.result[q - 26]?.getD 0 := by
  unfold State.windowRead
  iterate 7 rw [if_neg (by omega)]
  rw [if_pos h]

theorem State.windowRead_entryImage (h : 32 ≤ q ∧ q < 47) :
    s.windowRead q = s.scan.image[q - 32]?.getD 0 := by
  unfold State.windowRead
  iterate 9 rw [if_neg (by omega)]
  rw [if_pos h]

theorem State.windowRead_profileImage (h : 47 ≤ q ∧ q < 62) :
    s.windowRead q = s.profiles.image[q - 47]?.getD 0 := by
  unfold State.windowRead
  iterate 10 rw [if_neg (by omega)]
  rw [if_pos h]

theorem State.windowRead_requestImage (h : 62 ≤ q ∧ q < 67) :
    s.windowRead q = s.requests.image[q - 62]?.getD 0 := by
  unfold State.windowRead
  iterate 11 rw [if_neg (by omega)]
  rw [if_pos h]

theorem State.windowRead_channel (h : 67 ≤ q ∧ q < 77) : s.windowRead q =
    (s.channels.records[q - 67]?.map ChannelRecord.byte).getD 0 := by
  unfold State.windowRead
  iterate 12 rw [if_neg (by omega)]
  rw [if_pos h]

theorem State.windowRead_changeSet (h : 77 ≤ q ∧ q < 79) :
    s.windowRead q = byteOf s.windows.changeSet.toNat (q - 77) := by
  unfold State.windowRead
  iterate 13 rw [if_neg (by omega)]
  rw [if_pos h]

theorem State.windowRead_snapshot (h : 81 ≤ q ∧ q < 104) :
    s.windowRead q = s.results.snapshot[q - 80]?.getD 0 := by
  unfold State.windowRead
  iterate 15 rw [if_neg (by omega)]
  rw [if_pos h]

theorem State.windowRead_unassigned (h : q = 10 ∨ q = 31 ∨ q = 79 ∨ 104 ≤ q) :
    s.windowRead q = 0 := by
  unfold State.windowRead
  iterate 16 rw [if_neg (by omega)]

/-! ### A storage replaced -/

/-- The state with other argument bytes. -/
def State.withArgs (v : Vector Byte 8) : State :=
  { s with command := { s.command with args := v } }

/-- The state with another entry image. -/
def State.withEntryImage (v : Vector Byte 15) : State :=
  { s with scan := { s.scan with image := v } }

/-- The state with another profile image. -/
def State.withProfileImage (v : Vector Byte 15) : State :=
  { s with profiles := { s.profiles with image := v } }

/-- The state with another request image. -/
def State.withRequestImage (v : Vector Byte 5) : State :=
  { s with requests := { s.requests with image := v } }

theorem State.windowRead_withArgs (v : Vector Byte 8) (q : Nat) :
    (s.withArgs v).windowRead q =
      if 17 ≤ q ∧ q < 25 then v[q - 17]?.getD 0 else s.windowRead q := by
  by_cases h : 17 ≤ q ∧ q < 25
  · rw [if_pos h, State.windowRead_arg _ h]
    rfl
  · rw [if_neg h]
    unfold State.windowRead
    simp only [if_neg h]
    rfl

theorem State.windowRead_withEntryImage (v : Vector Byte 15) (q : Nat) :
    (s.withEntryImage v).windowRead q =
      if 32 ≤ q ∧ q < 47 then v[q - 32]?.getD 0 else s.windowRead q := by
  by_cases h : 32 ≤ q ∧ q < 47
  · rw [if_pos h, State.windowRead_entryImage _ h]
    rfl
  · rw [if_neg h]
    unfold State.windowRead
    simp only [if_neg h]
    rfl

theorem State.windowRead_withProfileImage (v : Vector Byte 15) (q : Nat) :
    (s.withProfileImage v).windowRead q =
      if 47 ≤ q ∧ q < 62 then v[q - 47]?.getD 0 else s.windowRead q := by
  by_cases h : 47 ≤ q ∧ q < 62
  · rw [if_pos h, State.windowRead_profileImage _ h]
    rfl
  · rw [if_neg h]
    unfold State.windowRead
    simp only [if_neg h]
    rfl

theorem State.windowRead_withRequestImage (v : Vector Byte 5) (q : Nat) :
    (s.withRequestImage v).windowRead q =
      if 62 ≤ q ∧ q < 67 then v[q - 62]?.getD 0 else s.windowRead q := by
  by_cases h : 62 ≤ q ∧ q < 67
  · rw [if_pos h, State.windowRead_requestImage _ h]
    rfl
  · rw [if_neg h]
    unfold State.windowRead
    simp only [if_neg h]
    rfl
end

theorem State.windowRead_port (s : State) (p : Port) (q : Nat) :
    ({ s with port := p } : State).windowRead q = s.windowRead q := rfl

/-- A location that stores the byte written to it (R191): not the profile image's generation. -/
def Stores (q : Nat) : Prop := (17 ≤ q ∧ q ≤ 24) ∨ (32 ≤ q ∧ q ≤ 60) ∨ (62 ≤ q ∧ q ≤ 66)

/-- What a byte written at an offset leaves. -/
structure Writes (s : State) (p : Nat) (b : Byte) (t : State) : Prop where
  stored : Stores p → t.windowRead p = b
  others : ∀ q, q ≠ p → t.windowRead q = s.windowRead q
  ignored : ¬ Stores p → t = s
  frame : t = { s with
    command := { s.command with args := t.command.args }
    scan := { s.scan with image := t.scan.image }
    profiles := { s.profiles with image := t.profiles.image }
    requests := { s.requests with image := t.requests.image } }

/-- A byte stored in the region from `lo` to `hi` is read back there and moves no other location. -/
theorem storage_write_read {s : State} {n lo hi p : Nat} {put : Vector Byte n → State}
    {v : Vector Byte n} (reads : ∀ x q, (put x).windowRead q =
      if lo ≤ q ∧ q < hi then x[q - lo]?.getD 0 else s.windowRead q)
    (same : put v = s) (size : hi ≤ lo + n) (h : lo ≤ p ∧ p < hi) (b : Byte) :
    (put (v.setIfInBounds (p - lo) b)).windowRead p = b ∧
      ∀ q, q ≠ p → (put (v.setIfInBounds (p - lo) b)).windowRead q = s.windowRead q := by
  have inside : p - lo < n := by omega
  refine ⟨?_, fun q other => ?_⟩
  · rw [reads, if_pos h, vector_write_read _ _ _ _ inside, if_pos rfl]
  · have before := reads v q
    rw [same] at before
    rw [reads, before]
    by_cases hq : lo ≤ q ∧ q < hi
    · rw [if_pos hq, if_pos hq, vector_write_read _ _ _ _ inside, if_neg (by omega)]
    · rw [if_neg hq, if_neg hq]

theorem State.windowWrite_args {s : State} {p : Nat} (h : 17 ≤ p ∧ p < 25) (b : Byte) :
    s.windowWrite p b = s.withArgs (s.command.args.setIfInBounds (p - 17) b) := if_pos h

theorem State.windowWrite_entryImage {s : State} {p : Nat} (h : 32 ≤ p ∧ p < 47) (b : Byte) :
    s.windowWrite p b = s.withEntryImage (s.scan.image.setIfInBounds (p - 32) b) := by
  unfold State.windowWrite
  rw [if_neg (by omega), if_pos h]
  rfl

theorem State.windowWrite_profileImage {s : State} {p : Nat} (h : 47 ≤ p ∧ p < 61) (b : Byte) :
    s.windowWrite p b = s.withProfileImage (s.profiles.image.setIfInBounds (p - 47) b) := by
  unfold State.windowWrite
  iterate 2 rw [if_neg (by omega)]
  rw [if_pos h]
  rfl

theorem State.windowWrite_requestImage {s : State} {p : Nat} (h : 62 ≤ p ∧ p < 67) (b : Byte) :
    s.windowWrite p b = s.withRequestImage (s.requests.image.setIfInBounds (p - 62) b) := by
  unfold State.windowWrite
  iterate 3 rw [if_neg (by omega)]
  rw [if_pos h]
  rfl

theorem State.windowWrite_ignored {s : State} {p : Nat} (h : ¬ Stores p) (b : Byte) :
    s.windowWrite p b = s := by
  unfold Stores at h
  unfold State.windowWrite
  iterate 4 rw [if_neg (by omega)]

theorem State.windowWrite_writes (s : State) (p : Nat) (b : Byte) :
    Writes s p b (s.windowWrite p b) := by
  by_cases stores : Stores p
  · have region : (17 ≤ p ∧ p < 25) ∨ (32 ≤ p ∧ p < 47) ∨ (47 ≤ p ∧ p < 61) ∨
        (62 ≤ p ∧ p < 67) := by
      unfold Stores at stores
      omega
    obtain h | h | h | h := region
    · rw [State.windowWrite_args h]
      obtain ⟨stored, others⟩ := storage_write_read (put := s.withArgs) (v := s.command.args)
        s.windowRead_withArgs rfl (by decide) h b
      exact ⟨fun _ => stored, others, fun no => absurd stores no, rfl⟩
    · rw [State.windowWrite_entryImage h]
      obtain ⟨stored, others⟩ := storage_write_read (put := s.withEntryImage) (v := s.scan.image)
        s.windowRead_withEntryImage rfl (by decide) h b
      exact ⟨fun _ => stored, others, fun no => absurd stores no, rfl⟩
    · rw [State.windowWrite_profileImage h]
      obtain ⟨stored, others⟩ := storage_write_read (put := s.withProfileImage) (p := p)
        (v := s.profiles.image) s.windowRead_withProfileImage rfl (by decide) (by omega) b
      exact ⟨fun _ => stored, others, fun no => absurd stores no, rfl⟩
    · rw [State.windowWrite_requestImage h]
      obtain ⟨stored, others⟩ := storage_write_read (put := s.withRequestImage)
        (v := s.requests.image) s.windowRead_withRequestImage rfl (by decide) h b
      exact ⟨fun _ => stored, others, fun no => absurd stores no, rfl⟩
  · rw [State.windowWrite_ignored stores]
    exact ⟨fun yes => absurd yes stores, fun _ _ => rfl, fun _ => rfl, rfl⟩

/-! ### The bytes of a WRITE frame -/

/-- A data byte away from the command location moves the pointer on, but at 15, 30 and 127. -/
theorem Port.completeByte_eq {p : Port} (h : p.pointer ≠ 25) (b : Byte) : p.completeByte b = { p with
    shift := b, bitCount := 0, sckHigh := true
    pointer := if p.pointer = 15 ∨ p.pointer = 30 ∨ p.pointer = 127 then p.pointer
      else p.pointer + 1 } := by
  unfold Port.completeByte nextPointer Port.complete
  simp only [h, false_or]

theorem State.writeEnable_elsewhere {s : State} (h : s.port.pointer.toNat ≠ 16) (b : Byte) :
    s.writeEnable b = s :=
  if_neg fun there => h there.2.2

theorem pointer_ne {p n : BitVec 7} (h : p ≠ n) : p.toNat ≠ n.toNat :=
  fun e => h (BitVec.eq_of_toNat_eq e)

/-- Settles O43: the enable location, then a storage or not. -/
theorem writtenBytesReachOneLocation : Obligations.WrittenBytesReachOneLocation := by
  intro s b write whole p port
  have enabled : p = 16 → s.writeEnable b =
      { s with events := { s.events with enable := b }, port := port } := by
    intro there
    have offset : s.port.pointer.toNat = 16 := congrArg BitVec.toNat there
    rw [State.writeEnable, if_pos ⟨write, whole, offset⟩,
      Port.completeByte_eq (by rw [show s.port.pointer = 16 from there]; decide)]
  refine ⟨fun there => ?_, fun elsewhere => ?_, fun elsewhere not_command => ?_⟩
  · have offset : s.port.pointer.toNat = 16 := congrArg BitVec.toNat there
    have handed : s.writeByte b = s.writeEnable b := by
      rw [State.writeByte, if_pos ⟨write, whole⟩, if_neg (by rw [offset]; decide), if_pos offset]
    exact ⟨congrArg Host.Outcome.next (enabled there),
      congrArg Host.Outcome.next (handed.trans (enabled there))⟩
  · exact congrArg Host.Outcome.next (State.writeEnable_elsewhere (pointer_ne elsewhere) b)
  · obtain ⟨stored, others, ignored, frame⟩ := s.windowWrite_writes p.toNat b
    have not_at_command : s.port.pointer.toNat ≠ Config.commandOffset := pointer_ne not_command
    have not_at_enable : s.port.pointer.toNat ≠ Config.enableOffset := pointer_ne elsewhere
    have row : s.writeByte b = { s.windowWrite p.toNat b with port := port } := by
      rw [State.writeByte, if_pos ⟨write, whole⟩, if_neg not_at_command, if_neg not_at_enable,
        Port.completeByte_eq not_command]
    refine ⟨_, congrArg Host.Outcome.next row, rfl, stored, others, fun no => ?_, ?_⟩
    · rw [ignored no]
    · exact congrArg (fun t : State => { t with port := port }) frame

end Sys2Proof.Machine
end

section
-- One declaration at a time: the stacks of parallel elaboration do not fit under the memory limit.
set_option Elab.async false
/-!
The serial port: the edges of SCK (R187), the bits of a byte, the loads of a READ frame (R145, R171,
R188), and frames (R190).
-/
namespace Sys2Proof.Machine

/-! ### The shift register -/

/-- The shift register takes a bit, the first one becoming the most significant (R187). -/
def shiftIn (x : Byte) (l : Level) : Byte := (x <<< 1) ||| flagByte (decide (l = .high))

theorem flagByte_getLsbD (b : Bool) (n : Nat) :
    (flagByte b).getLsbD n = (b && decide (n = 0)) := by
  cases b with
  | false => exact BitVec.getLsbD_zero
  | true =>
    refine (BitVec.getLsbD_one).trans ?_
    simp

theorem shiftIn_getLsbD (x : Byte) (l : Level) {i : Nat} (h : i < 8) :
    (shiftIn x l).getLsbD i = if i = 0 then decide (l = .high) else x.getLsbD (i - 1) := by
  rw [shiftIn, BitVec.getLsbD_or, BitVec.getLsbD_shiftLeft, flagByte_getLsbD, decide_eq_true h]
  by_cases zero : i = 0
  · simp [zero]
  · have first : ¬ i < 1 := by omega
    simp [zero, first]

/-- After some bits: the last ones in, in their order, above them what the register held. -/
theorem foldl_shiftIn_getLsbD (x : Byte) (l : List Level) {i : Nat} (h : i < 8) :
    (l.foldl shiftIn x).getLsbD i =
      if i < l.length then decide (l[l.length - 1 - i]? = some .high)
      else x.getLsbD (i - l.length) := by
  induction l using List.reverseRecOn generalizing i with
  | nil => simp
  | append_singleton l b ih =>
    rw [List.foldl_concat, shiftIn_getLsbD _ _ h, List.length_append, List.length_singleton]
    by_cases zero : i = 0
    · simp [zero]
    · rw [if_neg zero, ih (by omega)]
      by_cases recent : i < l.length + 1
      · have earlier : l.length + 1 - 1 - i < l.length := by omega
        have place : l.length - 1 - (i - 1) = l.length + 1 - 1 - i := by omega
        rw [if_pos (by omega), if_pos recent, place, List.getElem?_append_left earlier]
      · rw [if_neg (by omega), if_neg recent]
        congr 1
        omega

/-- The bits of a byte, most significant first (R187). -/
def bitsOf (b : Byte) : List Level := [7, 6, 5, 4, 3, 2, 1, 0].map fun i => levelOf (b.getLsbD i)

theorem levelOf_high (b : Bool) : decide (some (levelOf b) = some Level.high) = b := by
  cases b <;> rfl

/-- Eight bits fill the register, whatever it held. -/
theorem foldl_shiftIn_bitsOf (x b : Byte) : (bitsOf b).foldl shiftIn x = b := by
  refine BitVec.eq_of_getLsbD_eq fun i hi => ?_
  rw [foldl_shiftIn_getLsbD _ _ hi, if_pos (by exact hi)]
  interval_cases i <;> exact levelOf_high _

/-! ### The edges of SCK -/

/-- The port after a falling edge that owes no load. -/
def Port.lower (p : Port) : Port := if p.sckHigh then p.fall else p

theorem Port.lower_eq (p : Port) :
    p.lower = { p with sckHigh := false, sdo := p.lower.sdo } := by
  unfold Port.lower
  cases h : p.sckHigh with
  | false =>
    cases p
    cases h
    rfl
  | true => rfl

theorem Port.lower_sdo {p : Port} (h : p.frame ≠ .read) : p.lower.sdo = p.sdo := by
  unfold Port.lower
  split
  · exact if_neg h
  · rfl

theorem Port.loadDue_iff (p : Port) :
    p.loadDue = true ↔ p.frame = .read ∧ p.bitCount = 0 ∧ p.sckHigh = true := by
  simp only [Port.loadDue, Bool.and_eq_true, decide_eq_true_eq, and_assoc]

theorem Port.loadDue_of_not_read {p : Port} (h : p.frame ≠ .read) : p.loadDue = false :=
  Bool.eq_false_iff.mpr fun due => h ((p.loadDue_iff).mp due).1

theorem Port.loadDue_of_bits {p : Port} (h : p.bitCount ≠ 0) : p.loadDue = false :=
  Bool.eq_false_iff.mpr fun due => h ((p.loadDue_iff).mp due).2.1

theorem Port.loadDue_of_low {p : Port} (h : p.sckHigh = false) : p.loadDue = false :=
  Bool.eq_false_iff.mpr fun due => absurd (h.symm.trans ((p.loadDue_iff).mp due).2.2) nofun

theorem State.sckFall_lowers {s : State} (h : s.port.loadDue = false) :
    s.sckFall = { s with port := s.port.lower } := by
  unfold State.sckFall Port.lower
  split
  · exact if_neg (by rw [h]; decide)
  · rfl

theorem State.sckFall_loads {s : State} (h : s.port.loadDue = true) : s.sckFall = s.loadByte := by
  unfold State.sckFall
  rw [if_pos (s.port.loadDue_iff.mp h).2.2, if_pos h]

/-- A rising edge in a frame: the bit is captured, and the eighth completes the byte. -/
theorem State.sckRise_captures {s : State} (low : s.port.sckHigh = false)
    (frame : s.port.frame ≠ .noFrame) (l : Level) : s.sckRise l =
      if s.port.bitCount + 1 = 0 then ({ s with port := s.port.capture l } : State).byteComplete
      else { s with port := s.port.capture l } := by
  unfold State.sckRise
  rw [if_neg (by rw [low]; decide), if_neg frame]
  rfl

/-- One period of SCK in a frame: the bit enters the shift register. -/
def Port.clocked (p : Port) (l : Level) : Port :=
  { p with
    shift := shiftIn p.shift l, bitCount := p.bitCount + 1, sckHigh := true, sdo := p.lower.sdo }

theorem Port.lower_capture (p : Port) (l : Level) : p.lower.capture l = p.clocked l := by
  rw [Port.lower_eq]
  rfl

theorem State.sck_period {s : State} (frame : s.port.frame ≠ .noFrame)
    (quiet : s.port.loadDue = false) (l : Level) : s.sckFall.sckRise l =
      if s.port.bitCount + 1 = 0 then ({ s with port := s.port.clocked l } : State).byteComplete
      else { s with port := s.port.clocked l } := by
  have lower := s.port.lower_eq
  rw [State.sckFall_lowers quiet, State.sckRise_captures (s := { s with port := s.port.lower })]
  · rw [← Port.lower_capture, show s.port.lower.bitCount = s.port.bitCount by rw [lower]]
  · change s.port.lower.sckHigh = false
    rw [lower]
  · change s.port.lower.frame ≠ .noFrame
    rw [lower]
    exact frame

theorem bitCount_succ_ne {n : Nat} (h : n < 7) : (BitVec.ofNat 3 n + 1 : BitVec 3) ≠ 0 := by
  interval_cases n <;> decide

/-- The bits of SDI clocked in, one after another. -/
def State.clockIn (s : State) (l : List Level) : State :=
  l.foldl (fun (u : State) x => u.sckFall.sckRise x) s

/-- Fewer than eight bits stay in the shift register. -/
theorem State.clockIn_bits {s : State} (frame : s.port.frame ≠ .noFrame)
    (quiet : s.port.loadDue = false) (whole : s.port.bitCount = 0) (l : List Level)
    (short : l.length ≤ 7) : ∃ p : Port, s.clockIn l = { s with port := p } ∧
      p.frame = s.port.frame ∧ p.direction = s.port.direction ∧ p.pointer = s.port.pointer ∧
      p.csLow = s.port.csLow ∧ p.loadDue = false ∧ p.bitCount = BitVec.ofNat 3 l.length ∧
      p.shift = l.foldl shiftIn s.port.shift ∧ (s.port.frame ≠ .read → p.sdo = s.port.sdo) := by
  induction l using List.reverseRecOn with
  | nil => exact ⟨s.port, rfl, rfl, rfl, rfl, rfl, quiet, whole, rfl, fun _ => rfl⟩
  | append_singleton l x ih =>
    rw [List.length_append, List.length_singleton] at short ⊢
    obtain ⟨p, eq, hframe, direction, pointer, cs, due, bits, shift, sdo⟩ := ih (by omega)
    have more := bitCount_succ_ne (n := l.length) (by omega)
    have next := State.sck_period (s := { s with port := p }) (by rw [hframe]; exact frame) due x
    rw [if_neg (by rw [bits]; exact more)] at next
    refine ⟨p.clocked x, ?_, hframe, direction, pointer, cs,
      Port.loadDue_of_bits (by rw [Port.clocked, bits]; exact more), ?_, ?_, fun not_read => ?_⟩
    · unfold State.clockIn at eq ⊢
      rw [List.foldl_concat, eq, next]
    · rw [Port.clocked, bits, BitVec.ofNat_add]
      rfl
    · rw [List.foldl_concat, ← shift]
      rfl
    · exact (Port.lower_sdo (by rw [hframe]; exact not_read)).trans (sdo not_read)

/-- The eight bits of a byte complete it (R187). -/
theorem State.clockIn_byte {s : State} (frame : s.port.frame ≠ .noFrame)
    (quiet : s.port.loadDue = false) (whole : s.port.bitCount = 0) (b : Byte) :
    ∃ d : Level, (s.port.frame ≠ .read → d = s.port.sdo) ∧ s.clockIn (bitsOf b) =
      ({ s with port := { s.port with shift := b, bitCount := 0, sckHigh := true, sdo := d } } :
        State).byteComplete := by
  have split : bitsOf b = ([7, 6, 5, 4, 3, 2, 1].map fun i => levelOf (b.getLsbD i)) ++
      [levelOf (b.getLsbD 0)] := rfl
  have filled := foldl_shiftIn_bitsOf s.port.shift b
  rw [split, List.foldl_concat] at filled
  obtain ⟨p, eq, hframe, direction, pointer, cs, due, bits, shift, sdo⟩ := State.clockIn_bits frame
    quiet whole ([7, 6, 5, 4, 3, 2, 1].map fun i => levelOf (b.getLsbD i)) (by simp)
  have seven : p.bitCount + 1 = 0 := by
    rw [bits, List.length_map]
    rfl
  have next := State.sck_period (s := { s with port := p }) (by rw [hframe]; exact frame) due
    (levelOf (b.getLsbD 0))
  rw [if_pos seven] at next
  have port : p.clocked (levelOf (b.getLsbD 0)) = { s.port with
      shift := b, bitCount := 0, sckHigh := true, sdo := p.lower.sdo } := by
    rw [Port.clocked, shift, filled, seven, hframe, direction, pointer, cs]
  refine ⟨p.lower.sdo, fun not_read => ?_, ?_⟩
  · exact (Port.lower_sdo (by rw [hframe]; exact not_read)).trans (sdo not_read)
  · unfold State.clockIn at eq ⊢
    rw [split, List.foldl_concat, eq, next, port]

/-! ### The byte that the eight bits complete -/

/-- The port as the eighth bit of `b` leaves it, in a frame that is not a read. -/
def Port.filled (p : Port) (b : Byte) : Port := { p with shift := b, bitCount := 0, sckHigh := true }

theorem State.takeHeader_filled {s : State} (header : s.port.frame = .header)
    (whole : s.port.bitCount = 0) (b : Byte) :
    ({ s with port := s.port.filled b } : State).takeHeader b = s.takeHeader b := by
  have row : s.takeHeader b = _ := if_pos ⟨header, whole⟩
  have filled : ({ s with port := s.port.filled b } : State).takeHeader b = _ :=
    if_pos ⟨header, rfl⟩
  exact filled.trans row.symm

theorem State.windowWrite_port (s : State) (p q : Port) (n : Nat) (b : Byte) :
    ({ ({ s with port := p } : State).windowWrite n b with port := q } : State) =
      { s.windowWrite n b with port := q } := by
  unfold State.windowWrite
  split_ifs <;> rfl

theorem State.writeByte_filled {s : State} (write : s.port.frame = .write)
    (whole : s.port.bitCount = 0) (b : Byte) :
    ({ s with port := s.port.filled b } : State).writeByte b = s.writeByte b := by
  have row : s.writeByte b = _ := if_pos ⟨write, whole⟩
  have filled : ({ s with port := s.port.filled b } : State).writeByte b = _ :=
    if_pos ⟨write, rfl⟩
  rw [row, filled]
  by_cases command : s.port.pointer.toNat = Config.commandOffset
  · have at_command : s.atCommand = true := by simp [State.atCommand, write, whole, command]
    have at_command' : ({ s with port := s.port.filled b } : State).atCommand = true := by
      simp [State.atCommand, Port.filled, write, command]
    refine (if_pos (by exact command)).trans (Eq.trans ?_ (if_pos command).symm)
    rw [State.takeCode, State.takeCode, State.takeCommand,
      State.takeCommand, if_pos at_command, if_pos at_command']
    rfl
  refine (if_neg (by exact command)).trans (Eq.trans ?_ (if_neg command).symm)
  by_cases enable : s.port.pointer.toNat = Config.enableOffset
  · refine (if_pos (by exact enable)).trans (Eq.trans ?_ (if_pos enable).symm)
    have byte : s.writeEnable b = _ := if_pos ⟨write, whole, enable⟩
    have byte' : ({ s with port := s.port.filled b } : State).writeEnable b = _ :=
      if_pos ⟨write, rfl, enable⟩
    exact byte'.trans byte.symm
  · refine (if_neg (by exact enable)).trans (Eq.trans ?_ (if_neg enable).symm)
    exact s.windowWrite_port _ _ _ _

/-- In a frame but a read, the bits of a byte are that byte's row (log 12). -/
theorem State.clockIn_filled {s : State} (frame : s.port.frame ≠ .noFrame)
    (not_read : s.port.frame ≠ .read) (whole : s.port.bitCount = 0) (b : Byte) :
    s.clockIn (bitsOf b) = ({ s with port := s.port.filled b } : State).byteComplete := by
  obtain ⟨d, sdo, eq⟩ := State.clockIn_byte frame (Port.loadDue_of_not_read not_read) whole b
  rw [eq, sdo not_read]
  rfl

theorem State.byteComplete_header {s : State} (h : s.port.frame = .header) :
    s.byteComplete = s.takeHeader s.port.shift := by
  unfold State.byteComplete
  rw [h]

theorem State.byteComplete_write {s : State} (h : s.port.frame = .write) :
    s.byteComplete = s.writeByte s.port.shift := by
  unfold State.byteComplete
  rw [h]

theorem State.byteComplete_read {s : State} (h : s.port.frame = .read) :
    s.byteComplete = { s with port := { s.port with pointer := nextPointer s.port.pointer } } := by
  unfold State.byteComplete
  rw [h]

theorem State.clockIn_header {s : State} (header : s.port.frame = .header)
    (whole : s.port.bitCount = 0) (b : Byte) : s.clockIn (bitsOf b) = s.takeHeader b := by
  rw [State.clockIn_filled (by rw [header]; decide) (by rw [header]; decide) whole b,
    State.byteComplete_header (by exact header)]
  exact State.takeHeader_filled header whole b

theorem State.clockIn_write {s : State} (write : s.port.frame = .write)
    (whole : s.port.bitCount = 0) (b : Byte) : s.clockIn (bitsOf b) = s.writeByte b := by
  rw [State.clockIn_filled (by rw [write]; decide) (by rw [write]; decide) whole b,
    State.byteComplete_write (by exact write)]
  exact State.writeByte_filled write whole b

theorem nextPointer_eq (p : BitVec 7) :
    nextPointer p = if p ∈ [25, 15, 30, 127] then p else p + 1 := by
  simp only [nextPointer, List.mem_cons, List.not_mem_nil, or_false]

theorem State.clockIn_read {s : State} (read : s.port.frame = .read)
    (low : s.port.sckHigh = false) (whole : s.port.bitCount = 0) (b : Byte) :
    ∃ d : Level, s.clockIn (bitsOf b) = { s with port := { s.port with
      shift := b, sckHigh := true, sdo := d
      pointer := if s.port.pointer ∈ [25, 15, 30, 127] then s.port.pointer
        else s.port.pointer + 1 } } := by
  obtain ⟨d, -, eq⟩ :=
    State.clockIn_byte (by rw [read]; decide) (Port.loadDue_of_low low) whole b
  refine ⟨d, eq.trans ((State.byteComplete_read (by exact read)).trans ?_)⟩
  simp only [nextPointer_eq, whole]

/-- Away from a frame SCK is not noticed but for its level. -/
theorem State.sck_period_noFrame {s : State} (h : s.port.frame = .noFrame) (l : Level) :
    s.sckFall.sckRise l = { s with port := { s.port with sckHigh := true } } := by
  have not_read : s.port.frame ≠ .read := by rw [h]; decide
  have lower := s.port.lower_eq
  rw [Port.lower_sdo not_read] at lower
  rw [State.sckFall_lowers (Port.loadDue_of_not_read not_read), lower]
  exact if_pos h

theorem State.clockIn_noFrame {s : State} (h : s.port.frame = .noFrame) (l : Level)
    (rest : List Level) :
    s.clockIn (l :: rest) = { s with port := { s.port with sckHigh := true } } := by
  induction rest generalizing s l with
  | nil => exact State.sck_period_noFrame h l
  | cons m rest ih =>
    change (s.sckFall.sckRise l).clockIn (m :: rest) = _
    rw [State.sck_period_noFrame h]
    exact ih (s := { s with port := { s.port with sckHigh := true } }) h m

/-! ### The header and the ends of frames -/

theorem header_reads (b : Byte) : b.getLsbD 7 = decide (128 ≤ b.toNat) := by
  have msb := BitVec.msb_eq_decide b
  rwa [BitVec.msb_eq_getLsbD_last] at msb

theorem header_pointer (b : Byte) : b.setWidth 7 = BitVec.ofNat 7 (b.toNat % 128) := by
  refine BitVec.eq_of_toNat_eq ?_
  rw [BitVec.toNat_setWidth, BitVec.toNat_ofNat]
  omega

theorem State.takeHeader_eq {s : State} (header : s.port.frame = .header)
    (whole : s.port.bitCount = 0) (b : Byte) : s.takeHeader b = { s with port := { s.port with
      frame := if 128 ≤ b.toNat then .read else .write
      direction := if 128 ≤ b.toNat then .read else .write
      pointer := BitVec.ofNat 7 (b.toNat % 128), shift := b, bitCount := 0
      sckHigh := true } } := by
  rw [State.takeHeader, if_pos ⟨header, whole⟩, header_reads, header_pointer]
  simp only [decide_eq_true_eq]
  rfl

theorem State.endFrame_lowers {s : State} (cs : s.port.csLow = true)
    (quiet : s.port.loadDue = false) : s.endFrame = { s with port := { s.port.lower with
      csLow := false, frame := .noFrame, bitCount := 0 } } := by
  rw [State.endFrame, if_pos cs, State.sckFall_lowers quiet]

theorem State.endFrame_loads {s : State} (cs : s.port.csLow = true)
    (due : s.port.loadDue = true) : s.endFrame = { s.loadByte with port := { s.loadByte.port with
      csLow := false, frame := .noFrame, bitCount := 0 } } := by
  rw [State.endFrame, if_pos cs, State.sckFall_loads due]

/-- Settles O42: the rows by the frame state and CS#, then a byte by the frame it comes in. -/
theorem framesFollowCs : Obligations.FramesFollowCs := by
  have elsewhere : ∀ {p : Port} {f : FrameState} {q : Prop}, p.frame ≠ f ∨ p.bitCount ≠ 0 →
      ¬ (p.frame = f ∧ p.bitCount = 0 ∧ q) ∧ ¬ (p.frame = f ∧ p.bitCount = 0) := by tauto
  refine ⟨fun s => ⟨fun cs held => ?_, fun cs held => ?_, fun b header whole => ?_, fun b h => ?_,
    fun b h => ?_, fun cs => ?_, fun cs => ?_, fun quiet => ?_, fun cs quiet => ?_,
    fun cs due => ?_⟩, ?_⟩
  · exact congrArg Host.Outcome.next
      ((if_neg (by rw [cs]; decide)).trans (if_neg (by rw [held]; decide)))
  · exact congrArg Host.Outcome.next ((if_neg (by rw [cs]; decide)).trans (if_pos held))
  · exact congrArg Host.Outcome.next (State.takeHeader_eq header whole b)
  · exact congrArg Host.Outcome.next (if_neg (elsewhere (q := True) h).2)
  · exact ⟨congrArg Host.Outcome.next (if_neg (elsewhere (q := True) h).2),
      congrArg Host.Outcome.next (if_neg (elsewhere h).1)⟩
  · exact congrArg Host.Outcome.next (if_pos cs)
  · exact congrArg Host.Outcome.next (if_neg (by rw [cs]; decide))
  · have not_due : ∀ {q : Prop}, ¬ (s.port.loadDue = true ∧ q) :=
      fun h => absurd (quiet.symm.trans h.1) nofun
    exact ⟨congrArg Host.Outcome.next (if_neg not_due), congrArg Host.Outcome.next (if_neg not_due)⟩
  · refine ⟨_, congrArg Host.Outcome.next (State.endFrame_lowers cs quiet), ?_⟩
    rw [Port.lower_eq]
  · exact ⟨_, congrArg Host.Outcome.next (State.endFrame_loads cs due), rfl⟩
  · intro s b bits clocked whole
    refine ⟨fun header => ?_, fun write => ?_, fun read low => ?_, fun none => ?_⟩
    · exact congrArg Host.Outcome.next (State.clockIn_header header whole b).symm
    · exact congrArg Host.Outcome.next (State.clockIn_write write whole b).symm
    · obtain ⟨d, eq⟩ := State.clockIn_read read low whole b
      have sdo : clocked.port.sdo = d := congrArg (fun t : State => t.port.sdo) eq
      rw [sdo]
      exact eq
    · exact State.clockIn_noFrame none _ _

end Sys2Proof.Machine
end

section
-- One declaration at a time: the stacks of parallel elaboration do not fit under the memory limit.
set_option Elab.async false
/-!
READ frames: the loads and the bits on SDO (R145, R171, R188), the bytes of the locations (R191 to
R193), and the bytes of a record (R201).
-/
namespace Sys2Proof.Machine

/-! ### The loads -/

section
variable {s : State} (due : s.port.loadDue = true)
include due

theorem State.latchCounter_due (h : s.port.pointer = 11) : s.latchCounter = { s with
    timebase := { s.timebase with latch := s.timebase.counter }
    port := s.port.load (byteOf s.timebase.counter.toNat 0) } :=
  if_pos ⟨due, congrArg BitVec.toNat h⟩

theorem State.copySnapshot_due (h : s.port.pointer = 80) : s.copySnapshot = { s with
    results := { s.results with
      snapshot := s.headBytes, current := decide (s.results.records ≠ []) }
    port := s.port.load s.headBytes[0] } :=
  if_pos ⟨due, congrArg BitVec.toNat h⟩

theorem State.sckFall_latch (h : s.port.pointer = 11) : s.sckFall = s.latchCounter :=
  (State.sckFall_loads due).trans (if_pos (congrArg BitVec.toNat h))

theorem State.sckFall_copy (h : s.port.pointer = 80) : s.sckFall = s.copySnapshot := by
  have offset : s.port.pointer.toNat = Config.snapshotOffset := congrArg BitVec.toNat h
  rw [State.sckFall_loads due, State.loadByte, if_neg (by rw [offset]; decide), if_pos offset]

theorem State.sckFall_plain (latch : s.port.pointer ≠ 11) (copy : s.port.pointer ≠ 80) :
    s.sckFall = { s with port := s.port.load (s.windowRead s.port.pointer.toNat) } :=
  (State.sckFall_loads due).trans
    ((if_neg (pointer_ne latch)).trans (if_neg (pointer_ne copy)))

theorem State.sckFall_port : ∃ b, s.sckFall.port = s.port.load b := by
  by_cases latch : s.port.pointer = 11
  · rw [State.sckFall_latch due latch, State.latchCounter_due due latch]
    exact ⟨_, rfl⟩
  by_cases copy : s.port.pointer = 80
  · rw [State.sckFall_copy due copy, State.copySnapshot_due due copy]
    exact ⟨_, rfl⟩
  rw [State.sckFall_plain due latch copy]
  exact ⟨_, rfl⟩
end

theorem State.latchCounter_elsewhere {s : State} (h : s.port.pointer ≠ 11) : s.latchCounter = s :=
  if_neg fun there => pointer_ne h there.2

theorem State.copySnapshot_elsewhere {s : State} (h : s.port.pointer ≠ 80) : s.copySnapshot = s :=
  if_neg fun there => pointer_ne h there.2

theorem State.headBytes_cons {s : State} {r : Record} {rest : List Record}
    (h : s.results.records = r :: rest) : s.headBytes = r.bytes := by
  unfold State.headBytes
  rw [h]

theorem State.headBytes_nil {s : State} (h : s.results.records = []) : s.headBytes = emptyForm := by
  unfold State.headBytes
  rw [h]

/-- The lowest byte of a number. -/
theorem byteOf_zero (n : Nat) : byteOf n 0 = BitVec.ofNat 8 (n % 256) :=
  BitVec.eq_of_toNat_eq (by rw [byteOf_toNat, BitVec.toNat_ofNat]; omega)

/-! ### The bits on SDO -/

/-- The bits of SDO clocked out, the bits of SDI coming in. -/
def State.clockOut (s : State) (l : List Level) : State :=
  l.foldl (fun (u : State) x => (u.sckRise x).sckFall) s

/-- Until the eighth bit SDO drives the most significant bit of the shift register. -/
theorem State.clockOut_port {s : State} {b : Byte} {q : Port} (load : s.port = q.load b)
    (read : q.frame = .read) (whole : q.bitCount = 0) (l : List Level) (short : l.length ≤ 7) :
    (s.clockOut l).port.frame = .read ∧ (s.clockOut l).port.sckHigh = false ∧
      (s.clockOut l).port.bitCount = BitVec.ofNat 3 l.length ∧
      (s.clockOut l).port.shift = l.foldl shiftIn b ∧
      (s.clockOut l).port.sdo = levelOf (l.foldl shiftIn b).msb := by
  induction l using List.reverseRecOn with
  | nil =>
    change s.port.frame = _ ∧ s.port.sckHigh = _ ∧ s.port.bitCount = _ ∧ s.port.shift = _ ∧
      s.port.sdo = _
    rw [load]
    exact ⟨read, rfl, whole, rfl, rfl⟩
  | append_singleton l x ih =>
    rw [List.length_append, List.length_singleton] at short ⊢
    obtain ⟨frame, low, bits, shift, -⟩ := ih (by omega)
    have more := bitCount_succ_ne (n := l.length) (by omega)
    have step : s.clockOut (l ++ [x]) = ((s.clockOut l).sckRise x).sckFall :=
      List.foldl_concat _ _ _ _
    have captured := State.sckRise_captures low (by rw [frame]; decide) x
    rw [if_neg (by rw [bits]; exact more)] at captured
    rw [step, captured, State.sckFall_lowers (Port.loadDue_of_bits (by
      change (s.clockOut l).port.bitCount + 1 ≠ 0
      rw [bits]
      exact more)), List.foldl_concat, ← shift]
    refine ⟨frame, rfl, ?_, rfl, if_pos frame⟩
    change (s.clockOut l).port.bitCount + 1 = _
    rw [bits, BitVec.ofNat_add]
    rfl

theorem foldl_shiftIn_msb (b : Byte) (l : List Level) (short : l.length ≤ 7) :
    (l.foldl shiftIn b).msb = b.getLsbD (7 - l.length) := by
  rw [BitVec.msb_eq_getLsbD_last, foldl_shiftIn_getLsbD _ _ (by decide), if_neg (by omega)]

/-! ### The bytes of the locations -/

theorem vector_byte {n : Nat} (v : Vector Byte n) (lo : Nat) (k : Fin n) :
    v[lo + k.val - lo]?.getD 0 = v[k] := by
  rw [Nat.add_sub_cancel_left, Vector.getElem?_eq_getElem k.isLt]
  rfl

theorem Health.code_small (h : Health) : ∃ a : Fin 3, h.code = BitVec.ofNat 8 a.val := by
  cases h with
  | good => exact ⟨0, rfl⟩
  | suspect => exact ⟨1, rfl⟩
  | faulted => exact ⟨2, rfl⟩

theorem stallLevelCode_small (l : Option Level) :
    ∃ a : Fin 3, stallLevelCode l = BitVec.ofNat 8 a.val := by
  obtain _ | _ | _ := l
  · exact ⟨0, rfl⟩
  · exact ⟨1, rfl⟩
  · exact ⟨2, rfl⟩

/-- The fields of a channel health byte lie side by side. -/
theorem healthByte_toNat : ∀ (e : Bool) (h l : Fin 3) (n : Fin 8),
    (flagByte e ||| (BitVec.ofNat 8 h.val <<< 1) ||| (BitVec.ofNat 8 n.val <<< 3) |||
      (BitVec.ofNat 8 l.val <<< 6)).toNat =
    (if e then 1 else 0) + 2 * (BitVec.ofNat 8 h.val).toNat + 8 * n.val +
      64 * (BitVec.ofNat 8 l.val).toNat := by decide

theorem ChannelRecord.byte_toNat {r : ChannelRecord} (h : r.stalls ≤ 7) : r.byte.toNat =
    (if r.enabled then 1 else 0) + 2 * r.health.code.toNat + 8 * r.stalls +
      64 * (stallLevelCode r.lastLevel).toNat := by
  obtain ⟨a, health⟩ := r.health.code_small
  obtain ⟨l, level⟩ := stallLevelCode_small r.lastLevel
  rw [ChannelRecord.byte, health, level]
  exact healthByte_toNat r.enabled a l ⟨r.stalls, by omega⟩

theorem byteOf_getLsbD {w : Nat} (x : BitVec w) (k : Nat) {i : Nat} (h : i < 8) :
    (byteOf x.toNat k).getLsbD i = x.getLsbD (8 * k + i) := by
  have power : 256 ^ k = 2 ^ (8 * k) := by rw [Nat.pow_mul]
  rw [byteOf, BitVec.getLsbD_ofNat, decide_eq_true h, power, Nat.testBit_div_two_pow,
    Nat.add_comm]
  rfl

/-! ### The bytes of a record -/

theorem Record.flags_getLsbD (r : Record) :
    r.flags.getLsbD 0 = r.raw.isSome ∧ r.flags.getLsbD 1 = r.ratio.isSome ∧
    r.flags.getLsbD 2 = r.ratio.isSome ∧ r.flags.getLsbD 3 = r.cycle.isSome ∧
    r.flags.getLsbD 4 = r.ratio.any (·.saturated) ∧ r.flags.getLsbD 5 = r.refreshed ∧
    r.flags.getLsbD 6 = r.transition.isSome ∧
    r.flags.getLsbD 7 = decide (r.stallLevel = some .high) := by
  simp only [Record.flags, BitVec.getLsbD_or, BitVec.getLsbD_shiftLeft, flagByte_getLsbD]
  cases r.ratio <;> simp

theorem Record.place_toNat (r : Record) :
    (BitVec.ofNat 8 (r.channel.val + 16 * r.profile.val)).toNat =
      r.channel.val + 16 * r.profile.val := by
  rw [BitVec.toNat_ofNat]
  omega

theorem four_bytes {n : Nat} (h : n < 4294967296) :
    (byteOf n 0).toNat + 256 * (byteOf n 1).toNat + 65536 * (byteOf n 2).toNat +
      16777216 * (byteOf n 3).toNat = n := by
  rw [byteOf_toNat, byteOf_toNat, byteOf_toNat, byteOf_toNat]
  omega

theorem latch_bytes {n : Nat} (h : n < 4294967296) :
    (byteOf n 1).toNat + 256 * (byteOf n 2).toNat + 65536 * (byteOf n 3).toNat = n / 256 := by
  rw [byteOf_toNat, byteOf_toNat, byteOf_toNat]
  omega

theorem small_toNat {n m : Nat} (h : n ≤ m) (small : m < 256) : (BitVec.ofNat 8 n).toNat = n := by
  rw [BitVec.toNat_ofNat]
  omega

/-- Settles O44: the loads by the pointer, the locations by their regions, a record's bytes by its
fields, and the codes by their tables. -/
theorem readsLatchAndCopy : Obligations.ReadsLatchAndCopy := by
  refine ⟨?_, ?_, ?_, fun x => by cases x <;> rfl, fun x => by cases x <;> rfl,
    fun x => by cases x <;> rfl⟩
  · intro s read whole high p port latched
    have due : s.port.loadDue = true := s.port.loadDue_iff.mpr ⟨read, whole, high⟩
    refine ⟨fun there => ?_, fun elsewhere => ?_, fun there r rest head => ?_,
      fun there empty => ?_, fun elsewhere => ?_, fun latch copy => ?_, fun sdi short => ?_⟩
    · have row : s.latchCounter = latched := by
        rw [State.latchCounter_due due there, byteOf_zero]
        rfl
      exact ⟨congrArg Host.Outcome.next row, (State.sckFall_latch due there).trans row⟩
    · exact congrArg Host.Outcome.next (State.latchCounter_elsewhere elsewhere)
    · intro copied
      have row : s.copySnapshot = copied := by
        rw [State.copySnapshot_due due there, State.headBytes_cons head, head]
        rfl
      exact ⟨congrArg Host.Outcome.next row, (State.sckFall_copy due there).trans row⟩
    · intro copied
      have row : s.copySnapshot = copied := by
        rw [State.copySnapshot_due due there, State.headBytes_nil empty, empty]
        rfl
      exact ⟨congrArg Host.Outcome.next row, (State.sckFall_copy due there).trans row⟩
    · exact congrArg Host.Outcome.next (State.copySnapshot_elsewhere elsewhere)
    · exact State.sckFall_plain due latch copy
    · intro clocked
      obtain ⟨b, load⟩ := State.sckFall_port due
      obtain ⟨-, -, -, -, sdo⟩ := State.clockOut_port load read whole sdi short
      have shift : s.sckFall.port.shift = b := by
        rw [load]
        rfl
      rw [shift, ← foldl_shiftIn_msb b sdi short]
      exact sdo
  · intro s
    refine ⟨?_, two_bytes s.scan.cycle.isLt, rfl, fun c => ?_, fun h => small_toNat h (by decide),
      fun h => small_toNat h (by decide), fun h => small_toNat h (by decide), flagByte_toNat _,
      ?_, latch_bytes s.timebase.latch.isLt, rfl, rfl, fun k => ?_, rfl, fun k => ?_, rfl,
      fun k => ⟨?_, ?_⟩, fun k => ?_, fun ch h => ?_, fun n => ?_, fun k h => ?_,
      fun r rest head => ?_, fun empty => ?_, fun n h => ?_⟩
    · change s.scan.state.code.toNat = _
      cases s.scan.state <;> rfl
    · have code : s.windowRead (if c = .a then 4 else 5) = (s.cell c).state.code := by
        cases c <;> rfl
      rw [code]
      cases (s.cell c).state <;> rfl
    · change (byteOf s.timebase.counter.toNat 0).toNat = _
      rw [byteOf_toNat, pow_zero, Nat.div_one]
    · rw [State.windowRead_arg s (by omega), vector_byte]
    · rw [State.windowRead_result s (by omega), vector_byte]
    · rw [State.windowRead_entryImage s (by omega), vector_byte]
    · rw [State.windowRead_profileImage s (by omega), vector_byte]
    · rw [State.windowRead_requestImage s (by omega), vector_byte]
    · have byte : s.windowRead (67 + ch.val) = (s.channel ch).byte := by
        rw [State.windowRead_channel s (by omega), Nat.add_sub_cancel_left,
          Vector.getElem?_eq_getElem ch.isLt]
        rfl
      rw [byte, ChannelRecord.byte_toNat h]
      cases (s.channel ch).health <;> obtain _ | _ | _ := (s.channel ch).lastLevel <;> rfl
    · by_cases low : n.val < 8
      · rw [if_pos low, State.windowRead_changeSet s (by decide), byteOf_getLsbD _ _ (by omega)]
        congr 1
        omega
      · rw [if_neg low, State.windowRead_changeSet s (by decide), byteOf_getLsbD _ _ (by omega)]
        congr 1
        omega
    · rw [State.windowRead_snapshot s (by omega), vector_byte]
    · change s.headBytes[0] = _
      rw [State.headBytes_cons head]
      rfl
    · change s.headBytes[0] = _
      rw [State.headBytes_nil empty]
      rfl
    · refine State.windowRead_unassigned s ?_
      simpa [or_assoc] using h
  · intro r samples raw ratio b three
    have raw_small : r.raw.getD 0 < 16777216 := by
      cases h : r.raw with
      | none => decide
      | some v => exact Nat.lt_succ_of_le (raw v h)
    obtain ⟨flag0, flag1, flag2, flag3, flag4, flag5, flag6, flag7⟩ := r.flags_getLsbD
    refine ⟨rfl, rfl, rfl, r.place_toNat, small_toNat samples (by decide), flag0, flag1, flag2,
      flag3, flag4, flag5, flag6, flag7, ?_, two_bytes r.sequence.isLt,
      two_bytes (r.cycle.getD 0).isLt, three_bytes raw_small, ?_, ?_,
      four_bytes r.timestamp.isLt⟩
    · change (windowCode r.transition).toNat = _
      obtain _ | _ | _ | _ := r.transition <;> rfl
    · refine three_bytes ?_
      cases h : r.ratio with
      | none => decide
      | some q => exact Nat.lt_succ_of_le (ratio q h).1
    · refine three_bytes ?_
      cases h : r.ratio with
      | none => decide
      | some q => exact Nat.lt_succ_of_le (ratio q h).2

end Sys2Proof.Machine
end
